-- ==== Sys2Proof/Word.lean ====
section
/-! DEFINITION. The word types of the CORE (spec/00_scope.md R5, R6). -/

namespace Sys2Proof

/-- A data-bus byte; also the width of A, X, Y, S and P (R5 `XLEN`). -/
abbrev Byte := BitVec 8

/-- A CPU address; also the width of PC (R5 `PCLEN`). -/
abbrev Word := BitVec 16

/-- A PPU-bus address (10_state.md R45). -/
abbrev PpuAddr := BitVec 14

/-- A frame-buffer cell: emphasis bits 8:6, colour index 5:0 (10_state.md R43). -/
abbrev Pixel := BitVec 9

/-- `hi : lo`, the little-endian pair of bytes as a 16-bit value (20_memory.md R70). -/
def word (lo hi : Byte) : Word := hi ++ lo

/-- Bits 7:0 of a 16-bit value. -/
def loByte (w : Word) : Byte := w.extractLsb' 0 8

/-- Bits 15:8 of a 16-bit value. -/
def hiByte (w : Word) : Byte := w.extractLsb' 8 8

/-- `zext_16` (R6). -/
def zext16 (b : Byte) : Word := b.setWidth 16

/-- `sext_16` (R6): `b` if bit 7 is 0, else `b + 0xFF00`. -/
def sext16 (b : Byte) : Word := b.signExtend 16

end Sys2Proof
end

