-- ==== Sys2Proof/Config.lean ====
section
/-! DEFINITION. The implementation parameters of spec/00_scope.md R5. Fixed ones are constants; the ones R5 and
92_eei_decisions.md leave OPEN are a record that `State` carries unchanged, so that a statement about every state holds
for every value of them (DESIGN CHOICE, log entry 3). -/

namespace Sys2Proof

/-- The OPEN parameters (92_eei_decisions.md, "Open parameters, gathered"). The fourth, `INIT_MEM`, is an argument of
`Machine.State.powerOnWith`. -/
structure Params where
  /-- `OPEN_BUS_VALUE` (D15): the byte read from an undecoded CPU address. -/
  openBus : Byte
  /-- `JOY_EXHAUSTED_BIT` (D31): the bit returned after the eighth joypad read. -/
  joyExhausted : Bool
  /-- `JOY_UPPER_BITS` (D31): bits 7:1 of a joypad read. -/
  joyUpper : BitVec 7
deriving DecidableEq, Repr

/-- The values R5 gives. -/
def Params.default : Params := { openBus := 0x00, joyExhausted := true, joyUpper := 0 }

namespace Config

/-- `PPU_PER_CPU`. -/
abbrev ppuPerCpu : Nat := 3
/-- `NMI_CYCLES` (D9). -/
abbrev nmiCycles : Nat := 7
/-- `OAM_DMA_CYCLES` (D16). -/
abbrev oamDmaCycles : Nat := 513
/-- `DOTS_PER_LINE` (D22). -/
abbrev dotsPerLine : Nat := 341
/-- `LINES_PER_FRAME` (D22). -/
abbrev linesPerFrame : Nat := 262
/-- `FB_W` (D22). -/
abbrev fbWidth : Nat := 256
/-- `FB_H` (D22): also the first line after the visible ones. -/
abbrev fbHeight : Nat := 240
/-- `VBLANK_LINE` (D23). -/
abbrev vblankLine : Nat := 241
/-- `VBLANK_DOT` (D23). -/
abbrev vblankDot : Nat := 1
/-- `PRERENDER_LINE` (D22). -/
abbrev prerenderLine : Nat := 261
/-- `SEC_OAM_MAX`. -/
abbrev secOamMax : Nat := 8
/-- `VEC_NMI` (D6). -/
abbrev vecNmi : Word := 0xFFFA
/-- `VEC_RESET` (D6). -/
abbrev vecReset : Word := 0xFFFC
/-- `VEC_BRK` (D6). -/
abbrev vecBrk : Word := 0xFFFE
/-- `RESET_S` (D8). -/
abbrev resetS : Byte := 0xFD
/-- `RESET_P` (D8): I = 1, U = 1. -/
abbrev resetP : Byte := 0x24
/-- `RAM_SIZE`. -/
abbrev ramSize : Nat := 2048
/-- `OAM_SIZE`. -/
abbrev oamSize : Nat := 256
/-- `NT_RAM_SIZE` in four-screen mode (D20). -/
abbrev ntRamSize : Nat := 4096
/-- `PAL_RAM_SIZE`. -/
abbrev palSize : Nat := 32
/-- `PRG_UNIT`. -/
abbrev prgUnit : Nat := 16384
/-- `CHR_UNIT`. -/
abbrev chrUnit : Nat := 8192
/-- `HEADER_SIZE`. -/
abbrev headerSize : Nat := 16

end Config
end Sys2Proof
end

