-- ==== Sys2Proof/Machine/State.lean ====
section
/-! DEFINITION. The state of the CORE as plain data (spec/10_state.md R20 to R44, R48, R49), the reasons a step can
stop, and the state after reset. INVENTORY.md lists every field with its rule. -/

namespace Sys2Proof.Machine

/-- An array of `w`-bit cells: the (index, value) pairs of the cells that are not 0, indexes strictly rising. A cell not
listed reads as 0, which is the power-on content of every array of the CORE (R49, `INIT_MEM`; log entries 4 and 7). -/
abbrev Memory (w : Nat) := List (Nat × BitVec w)

/-- The two session-ending faults (60_exceptions.md R340, R341). -/
inductive Fault where
  /-- Raised by `step` when the byte fetched at `pc` is none of the 151 opcodes (R118, R340); the spec's own halt, so
  exact against the spec (safe against the console, which goes on or jams: U4). -/
  | illegalOpcode (pc : Word) (op : Byte)
  /-- Raised by nothing: every dispatch is total (R341). Kept because the fault latch of R26 can name it; safe. -/
  | invariantViolation (info : String)
deriving DecidableEq, Repr

/-- Why a step has no meaning. No arm of `exec` uses it: every instruction has its meaning. -/
inductive Refusal where
  /-- Raised only by an arm of `exec` whose instruction has no meaning yet (none); safe. -/
  | notModelled (mnemonic : String)
deriving DecidableEq, Repr

/-- What one instruction or step answers. -/
abbrev Result (σ : Type) := Host.Outcome σ Fault Refusal

/-- Nametable arrangement (R29). -/
inductive Mirroring where
  | horizontal
  | vertical
  | fourScreen
deriving DecidableEq, Repr

/-- `prg_len` (R29): one or two 16384-byte units, all the fixed-bank mapper can hold (20_memory.md R67). -/
inductive PrgSize where
  | units1
  | units2
deriving DecidableEq, Repr

/-- The cartridge image (R29). -/
structure Cartridge where
  prg : Memory 8
  prgSize : PrgSize
  chr : Memory 8
  chrIsRam : Bool
  mapper : Byte
  mirroring : Mirroring
deriving DecidableEq, Repr

/-- The PPU (R30 to R41) and the frame buffer it writes (R43). -/
structure Ppu where
  ctrl : Byte
  mask : Byte
  vblank : Bool
  spr0Hit : Bool
  sprOverflow : Bool
  oamAddr : Byte
  oam : Memory 8
  secCount : Nat
  /-- `ppu.sec`: byte `b` of entry `i` is cell `4*i + b`. -/
  sec : Memory 8
  sprLo : Memory 8
  sprHi : Memory 8
  sprAttr : Memory 8
  sprX : Memory 8
  spr0OnLine : Bool
  v : BitVec 15
  t : BitVec 15
  x : BitVec 3
  w : Bool
  readBuffer : Byte
  ioLatch : Byte
  ntByte : Byte
  atBits : BitVec 2
  patLo : Byte
  patHi : Byte
  bgShLo : BitVec 16
  bgShHi : BitVec 16
  atShLo : BitVec 16
  atShHi : BitVec 16
  ntRam : Memory 8
  pal : Memory 6
  scanline : Nat
  dot : Nat
  frame : Nat
  nmiOut : Bool
  frameComplete : Bool
  /-- `fb[y][x]` is cell `256*y + x`. -/
  fb : Memory 9
deriving DecidableEq, Repr

/-- The joypad (R42). -/
structure Joypad where
  buttons : Byte
  snapshot : Byte
  index : Nat
  strobe : Bool
deriving DecidableEq, Repr

/-- The master clock's two counters (R44). -/
structure Clock where
  cpuCycles : Nat
  ppuDots : Nat
deriving DecidableEq, Repr

/-- The whole machine. -/
structure State where
  /-- The accumulator A (R20). -/
  a : Byte
  /-- The index register X (R20). -/
  x : Byte
  /-- The index register Y (R20). -/
  y : Byte
  /-- The stack pointer S (R22). -/
  sp : Byte
  /-- The program counter PC (R21). -/
  pc : Word
  /-- The status register P (R23). -/
  p : Byte
  /-- `cpu.nmi_pending` (R25). -/
  nmiPending : Bool
  /-- `cyc`, the cost the current CPU step reports (00_scope.md R7, 30_encoding.md R122). -/
  cyc : Nat
  /-- The fault latch (R26). -/
  fault : Option Fault
  /-- Work RAM (R28). -/
  ram : Memory 8
  cart : Cartridge
  ppu : Ppu
  joy : Joypad
  clk : Clock
  /-- The OPEN parameters of 00_scope.md R5: inputs of the step, written by nothing (R47). -/
  params : Params
deriving DecidableEq, Repr

/-- The cartridge of `State.reset`: two program units and pattern RAM, all bytes 0, mapper 0, horizontal mirroring
(DESIGN CHOICE, log entry 2: which cartridge is present is the host's choice). -/
def Cartridge.blank : Cartridge :=
  { prg := [], prgSize := .units2, chr := [], chrIsRam := true, mapper := 0, mirroring := .horizontal }

/-- The PPU at power-on (R49). -/
def Ppu.powerOn : Ppu :=
  { ctrl := 0, mask := 0, vblank := false, spr0Hit := false, sprOverflow := false, oamAddr := 0, oam := [],
    secCount := 0, sec := [], sprLo := [], sprHi := [], sprAttr := [], sprX := [], spr0OnLine := false,
    v := 0, t := 0, x := 0, w := false, readBuffer := 0, ioLatch := 0, ntByte := 0, atBits := 0, patLo := 0, patHi := 0,
    bgShLo := 0, bgShHi := 0, atShLo := 0, atShHi := 0, ntRam := [], pal := [], scanline := 0, dot := 0, frame := 0,
    nmiOut := false, frameComplete := false, fb := [] }

/-- The joypad at power-on (R49, 48_joypad.md R317). -/
def Joypad.powerOn : Joypad := { buttons := 0, snapshot := 0, index := 0, strobe := false }

/-- The machine right after power-on and `reset()` (R48, R49, 70_reset_and_hazards.md R370) with the blank cartridge,
whose reset vector reads 0x0000. -/
def State.reset : State :=
  { a := 0, x := 0, y := 0, sp := Config.resetS, pc := 0x0000, p := Config.resetP, nmiPending := false, cyc := 0,
    fault := none, ram := [], cart := .blank, ppu := .powerOn, joy := .powerOn,
    clk := { cpuCycles := 0, ppuDots := 0 }, params := .default }

/-! The named updates: one per field, the only way the rest of the model changes a state. -/

def State.setA (v : Byte) (s : State) : State := { s with a := v }
def State.setX (v : Byte) (s : State) : State := { s with x := v }
def State.setY (v : Byte) (s : State) : State := { s with y := v }
def State.setSp (v : Byte) (s : State) : State := { s with sp := v }
def State.setPc (v : Word) (s : State) : State := { s with pc := v }
def State.setP (v : Byte) (s : State) : State := { s with p := v }
def State.setNmiPending (v : Bool) (s : State) : State := { s with nmiPending := v }
def State.setCyc (v : Nat) (s : State) : State := { s with cyc := v }
def State.setFault (v : Option Fault) (s : State) : State := { s with fault := v }
def State.setRam (v : Memory 8) (s : State) : State := { s with ram := v }
def State.setCart (v : Cartridge) (s : State) : State := { s with cart := v }
def State.setPpu (v : Ppu) (s : State) : State := { s with ppu := v }
def State.setJoy (v : Joypad) (s : State) : State := { s with joy := v }
def State.setClk (v : Clock) (s : State) : State := { s with clk := v }

end Sys2Proof.Machine
end

