-- ==== Sys2Proof/Machine/Memory.lean ====
section
/-! DEFINITION. Reading and writing one cell of an array, the array's canonical form, and the bit-field helpers. -/

namespace Sys2Proof.Machine

/-- What a cell that is not listed reads as: the power-on content of every array (spec/10_state.md R49: `INIT_MEM` and
the other tables give 0; log entry 4). -/
def Memory.unlisted (w : Nat) : BitVec w := 0

/-- The value of cell `i`. The search stops at the first index past `i`, since indexes rise. -/
def Memory.read {w : Nat} : Memory w → Nat → BitVec w
  | [], _ => unlisted w
  | (k, u) :: m, i => if i < k then unlisted w else if i = k then u else Memory.read m i

/-- A cell put in front of a list, or left out where it holds what an unlisted cell reads as. -/
def Memory.consCell {w : Nat} (i : Nat) (v : BitVec w) (m : Memory w) : Memory w :=
  if v = unlisted w then m else (i, v) :: m

/-- Write cell `i`; the canonical form is kept. -/
def Memory.write {w : Nat} : Memory w → Nat → BitVec w → Memory w
  | [], i, v => consCell i v []
  | (k, u) :: m, i, v =>
    if i < k then consCell i v ((k, u) :: m) else if i = k then consCell i v m else (k, u) :: Memory.write m i v

/-- Every index is at least `lo`, they rise strictly, stay below `size`, and no listed cell holds the unlisted value. -/
def Memory.wfFrom {w : Nat} (size : Nat) : Nat → Memory w → Bool
  | _, [] => true
  | lo, (k, u) :: m => decide (lo ≤ k) && decide (k < size) && (u != unlisted w) && wfFrom size (k + 1) m

/-- The canonical form of an array of `size` cells. -/
def Memory.wf {w : Nat} (size : Nat) (m : Memory w) : Bool := m.wfFrom size 0

/-- The array whose cells from `i` on are the values of a list. -/
def Memory.ofListFrom {w : Nat} : Nat → List (BitVec w) → Memory w
  | _, [] => []
  | i, v :: vs => consCell i v (ofListFrom (i + 1) vs)

/-- The array whose cells from 0 on are the values of a list. -/
def Memory.ofList {w : Nat} (vs : List (BitVec w)) : Memory w := ofListFrom 0 vs

/-- The field `x[lo + len - 1 : lo]` (spec/00_scope.md R6). -/
def field {n : Nat} (x : BitVec n) (lo len : Nat) : BitVec len := x.extractLsb' lo len

/-- `x` with the field that starts at bit `lo` replaced by `v`. -/
def putField {n len : Nat} (x : BitVec n) (lo : Nat) (v : BitVec len) : BitVec n :=
  (x &&& ~~~((BitVec.allOnes len).setWidth n <<< lo)) ||| (v.setWidth n <<< lo)

/-- A bit as a one-bit field. -/
def bit1 (b : Bool) : BitVec 1 := BitVec.ofBool b

/-- `Reverse8` (spec/47_ppu_pipeline.md R290): the order of the eight bits reversed. -/
def reverse8 (b : Byte) : Byte := b.reverse

end Sys2Proof.Machine
end

