-- ==== Sys2Proof/Machine/JoypadPort.lean ====
section
/-! DEFINITION. The joypad shift-register protocol (spec/48_joypad.md R312, R314). -/

namespace Sys2Proof.Machine

/-- `JoyWrite` (R312): bit 0 is the strobe; every write with bit 0 = 1 snapshots and restarts. -/
def Joypad.write (v : Byte) (j : Joypad) : Joypad :=
  if v.getLsbD 0 then { j with strobe := true, snapshot := j.buttons, index := 0 } else { j with strobe := false }

/-- The bit `JoyRead` delivers (R314). -/
def Joypad.serialBit (q : Params) (j : Joypad) : Bool :=
  if j.strobe then j.snapshot.getLsbD 0
  else if j.index < 8 then j.snapshot.getLsbD j.index
  else q.joyExhausted

/-- `JoyRead` (R314): the byte, and the joypad with the index advanced, stopping at 8. -/
def Joypad.read (q : Params) (j : Joypad) : Byte × Joypad :=
  (q.joyUpper ++ bit1 (j.serialBit q),
    if j.strobe then j else if j.index < 8 then { j with index := j.index + 1 } else j)

end Sys2Proof.Machine
end

