-- ==== Sys2Proof/Machine/PpuBus.lean ====
section
/-! DEFINITION. The cartridge address mapper and the PPU bus (spec/20_memory.md R67, R74 to R78). -/

namespace Sys2Proof.Machine

/-- `prg_len` in bytes (R67). -/
def PrgSize.bytes : PrgSize → Nat
  | .units1 => 16384
  | .units2 => 32768

/-- `map_prg` (R67): the offset into the program image of a CPU address of 0x8000..0xFFFF. -/
def mapPrg (size : PrgSize) (addr : Word) : Nat := (addr.toNat - 0x8000) % size.bytes

/-- `map_chr` (R76): no banking, so the offset is the address. -/
def mapChr (a : PpuAddr) : Nat := a.toNat

/-- `NtIndex` (R77): the nametable cell of a PPU address under a mirroring mode. -/
def ntIndex (m : Mirroring) (a : PpuAddr) : Nat :=
  let o := a &&& 0x0FFF
  match m with
  | .vertical => (o &&& 0x07FF).toNat
  | .horizontal => (((o >>> 1) &&& 0x0400) ||| (o &&& 0x03FF)).toNat
  | .fourScreen => o.toNat

/-- `PalIndex` (R78): the palette cell of a PPU address; 0x10, 0x14, 0x18, 0x1C reach 0x00, 0x04, 0x08, 0x0C. -/
def palIndex (a : PpuAddr) : Nat :=
  let i := a &&& 0x001F
  if i &&& 0x13 = 0x10 then (i &&& 0x0F).toNat else i.toNat

/-- `PpuRead` (R74). No PPU-bus read has a side effect. -/
def ppuRead (c : Cartridge) (p : Ppu) (a : PpuAddr) : Byte :=
  if a ≤ 0x1FFF then c.chr.read (mapChr a)
  else if a ≤ 0x3EFF then p.ntRam.read (ntIndex c.mirroring a)
  else (p.pal.read (palIndex a)).setWidth 8

/-- The cartridge side of `PpuWrite` (R75): pattern RAM takes the byte, pattern ROM drops it. -/
def Cartridge.ppuWrite (c : Cartridge) (a : PpuAddr) (v : Byte) : Cartridge :=
  if a ≤ 0x1FFF && c.chrIsRam then { c with chr := c.chr.write (mapChr a) v } else c

/-- The PPU's own side of `PpuWrite` (R75): nametable RAM, or palette RAM with bits 7:6 dropped. -/
def Ppu.ppuWrite (m : Mirroring) (p : Ppu) (a : PpuAddr) (v : Byte) : Ppu :=
  if a ≤ 0x1FFF then p
  else if a ≤ 0x3EFF then { p with ntRam := p.ntRam.write (ntIndex m a) v }
  else { p with pal := p.pal.write (palIndex a) (field v 0 6) }

/-- `PpuWrite` (R75). -/
def ppuWrite (a : PpuAddr) (v : Byte) (s : State) : State :=
  (s.setCart (s.cart.ppuWrite a v)).setPpu (s.ppu.ppuWrite s.cart.mirroring a v)

end Sys2Proof.Machine
end

