-- ==== Sys2Proof/Machine/PpuPorts.lean ====
section
/-! DEFINITION. The PPU's eight CPU-facing ports (spec/46_ppu_registers.md R240 to R258): one definition for each
port's read and each port's write. A read answers the byte and the PPU after the read's side effect. -/

namespace Sys2Proof.Machine

/-- `ctrl.vram_inc` (10_state.md R30). -/
def Ppu.vramInc (p : Ppu) : Bool := p.ctrl.getLsbD 2
/-- `ctrl.spr_table`. -/
def Ppu.sprTable (p : Ppu) : Bool := p.ctrl.getLsbD 3
/-- `ctrl.bg_table`. -/
def Ppu.bgTable (p : Ppu) : Bool := p.ctrl.getLsbD 4
/-- `ctrl.spr_size`. -/
def Ppu.sprSize (p : Ppu) : Bool := p.ctrl.getLsbD 5
/-- `ctrl.nmi_enable`. -/
def Ppu.nmiEnable (p : Ppu) : Bool := p.ctrl.getLsbD 7
/-- `mask.grayscale` (10_state.md R31). -/
def Ppu.grayscale (p : Ppu) : Bool := p.mask.getLsbD 0
/-- `mask.bg_left`. -/
def Ppu.bgLeft (p : Ppu) : Bool := p.mask.getLsbD 1
/-- `mask.spr_left`. -/
def Ppu.sprLeft (p : Ppu) : Bool := p.mask.getLsbD 2
/-- `mask.show_bg`. -/
def Ppu.showBg (p : Ppu) : Bool := p.mask.getLsbD 3
/-- `mask.show_spr`. -/
def Ppu.showSpr (p : Ppu) : Bool := p.mask.getLsbD 4
/-- `rendering` (R31). -/
def Ppu.rendering (p : Ppu) : Bool := p.showBg || p.showSpr

/-- `VramIncrement` (R257). -/
def Ppu.vramIncrement (p : Ppu) : Ppu := { p with v := p.v + (if p.vramInc then 32 else 1) }

/-- The PPU address ports 6 and 7 use: `ppu.v & 0x3FFF`. -/
def Ppu.vramAddr (p : Ppu) : PpuAddr := p.v.setWidth 14

/-- Read of a write-only port (R242, R244, R248, R252, R254): the I/O latch, no change. -/
def Ppu.readLatch (p : Ppu) : Byte × Ppu := (p.ioLatch, p)

/-- The status byte of R245. -/
def Ppu.statusByte (p : Ppu) : Byte :=
  bit1 p.vblank ++ bit1 p.spr0Hit ++ bit1 p.sprOverflow ++ field p.ioLatch 0 5

/-- Read port 2 (R245): clears VBlank and the write toggle. -/
def Ppu.readStatus (p : Ppu) : Byte × Ppu :=
  (p.statusByte, { p with vblank := false, w := false, ioLatch := p.statusByte })

/-- Read port 4 (R249). -/
def Ppu.readOamData (p : Ppu) : Byte × Ppu :=
  let r := p.oam.read p.oamAddr.toNat
  (r, { p with ioLatch := r })

/-- The byte a read of port 7 returns (R256): the old buffer, or the palette entry at once. -/
def Ppu.dataByte (c : Cartridge) (p : Ppu) : Byte :=
  if p.vramAddr ≤ 0x3EFF then p.readBuffer else ppuRead c p p.vramAddr

/-- What a read of port 7 leaves in the read buffer (R256). -/
def Ppu.dataRefill (c : Cartridge) (p : Ppu) : Byte :=
  if p.vramAddr ≤ 0x3EFF then ppuRead c p p.vramAddr else ppuRead c p (p.vramAddr - 0x1000)

/-- Read port 7 (R256). -/
def Ppu.readData (c : Cartridge) (p : Ppu) : Byte × Ppu :=
  let r := p.dataByte c
  (r, { ({ p with readBuffer := p.dataRefill c } : Ppu).vramIncrement with ioLatch := r })

/-- `PpuPortRead` (R240). -/
def Ppu.portRead (c : Cartridge) (port : BitVec 3) (p : Ppu) : Byte × Ppu :=
  match port.toNat with
  | 0 => p.readLatch
  | 1 => p.readLatch
  | 2 => p.readStatus
  | 3 => p.readLatch
  | 4 => p.readOamData
  | 5 => p.readLatch
  | 6 => p.readLatch
  | _ => p.readData c

/-- Write port 0 (R241): the control latch and `t[11:10]`; never raises the NMI. -/
def Ppu.writeCtrl (v : Byte) (p : Ppu) : Ppu := { p with ctrl := v, t := putField p.t 10 (field v 0 2) }

/-- Write port 1 (R243). -/
def Ppu.writeMask (v : Byte) (p : Ppu) : Ppu := { p with mask := v }

/-- Write port 3 (R247). -/
def Ppu.writeOamAddr (v : Byte) (p : Ppu) : Ppu := { p with oamAddr := v }

/-- Write port 4 (R250). -/
def Ppu.writeOamData (v : Byte) (p : Ppu) : Ppu :=
  { p with oam := p.oam.write p.oamAddr.toNat v, oamAddr := p.oamAddr + 1 }

/-- Write port 5 (R251), the two-write scroll protocol. -/
def Ppu.writeScroll (v : Byte) (p : Ppu) : Ppu :=
  if p.w then { p with t := putField (putField p.t 12 (field v 0 3)) 5 (field v 3 5), w := false }
  else { p with t := putField p.t 0 (field v 3 5), x := field v 0 3, w := true }

/-- Write port 6 (R253), sharing the toggle with port 5. -/
def Ppu.writeAddr (v : Byte) (p : Ppu) : Ppu :=
  if p.w then
    let t := putField p.t 0 v
    { p with t := t, v := t, w := false }
  else { p with t := putField (putField p.t 8 (field v 0 6)) 14 (0 : BitVec 1), w := true }

/-- Write port 7 (R255). -/
def writeData (v : Byte) (s : State) : State :=
  let s1 := ppuWrite s.ppu.vramAddr v s
  s1.setPpu s1.ppu.vramIncrement

/-- `PpuPortWrite` (R240): the I/O latch takes the byte, then the port's own write. Port 2 has none (R246). -/
def portWrite (port : BitVec 3) (v : Byte) (s : State) : State :=
  let p : Ppu := { s.ppu with ioLatch := v }
  match port.toNat with
  | 0 => s.setPpu (p.writeCtrl v)
  | 1 => s.setPpu (p.writeMask v)
  | 2 => s.setPpu p
  | 3 => s.setPpu (p.writeOamAddr v)
  | 4 => s.setPpu (p.writeOamData v)
  | 5 => s.setPpu (p.writeScroll v)
  | 6 => s.setPpu (p.writeAddr v)
  | _ => writeData v (s.setPpu p)

end Sys2Proof.Machine
end

