-- ==== Sys2Proof/Machine/Bus.lean ====
section
/-! DEFINITION. The CPU bus: address decoding, byte access, OAM DMA and the 16-bit reads (spec/20_memory.md R60 to R73,
R84). A read answers the byte and the state after the read's side effect. -/

namespace Sys2Proof.Machine

/-- What a CPU address reaches; the arms of R60 and R61, which partition the address space (R69). -/
inductive Target where
  /-- Work RAM, by cell (R62). -/
  | ram (cell : Nat)
  /-- A PPU port (R63). -/
  | port (p : BitVec 3)
  /-- The OAM DMA port 0x4014 (R64, R84). -/
  | dma
  /-- The controller port 0x4016 (R64). -/
  | joy
  /-- The second controller port 0x4017: reads 0, ignores writes (R65, 48_joypad.md R318). -/
  | joy2
  /-- The rest of 0x4000..0x401F and 0x4020..0x7FFF: nothing decoded (R65, R66). -/
  | undecoded
  /-- Cartridge program ROM (R67). -/
  | prg
deriving DecidableEq, Repr

/-- The address decoder (R60, R61; mirrors R62, R63). -/
def busTarget (addr : Word) : Target :=
  if addr ≤ 0x1FFF then .ram (addr &&& 0x07FF).toNat
  else if addr ≤ 0x3FFF then .port (field addr 0 3)
  else if addr = 0x4014 then .dma
  else if addr = 0x4016 then .joy
  else if addr = 0x4017 then .joy2
  else if addr ≤ 0x401F then .undecoded
  else if addr ≤ 0x7FFF then .undecoded
  else .prg

/-- `BusRead` (R60). -/
def busRead (addr : Word) (s : State) : Byte × State :=
  match busTarget addr with
  | .ram cell => (s.ram.read cell, s)
  | .port p => ((s.ppu.portRead s.cart p).1, s.setPpu (s.ppu.portRead s.cart p).2)
  | .dma => (s.params.openBus, s)
  | .joy => ((s.joy.read s.params).1, s.setJoy (s.joy.read s.params).2)
  | .joy2 => (0x00, s)
  | .undecoded => (s.params.openBus, s)
  | .prg => (s.cart.prg.read (mapPrg s.cart.prgSize addr), s)

/-- The byte a CPU read of `addr` would return, without making the read. -/
def peek (addr : Word) (s : State) : Byte := (busRead addr s).1

/-- One byte of the DMA copy (R84): `b` into `oam[u8(oam_addr + i)]`. -/
def oamDmaPut (i : Nat) (b : Byte) (s : State) : State :=
  s.setPpu { s.ppu with oam := s.ppu.oam.write (s.ppu.oamAddr + BitVec.ofNat 8 i).toNat b }

/-- The copy loop of R84: `n` bytes from index `i` on, ascending; each source read is an ordinary bus read. -/
def oamDmaCopy (page : Byte) : Nat → Nat → State → State
  | 0, _, s => s
  | n + 1, i, s =>
    let r := busRead (page ++ BitVec.ofNat 8 i) s
    oamDmaCopy page n (i + 1) (oamDmaPut i r.1 r.2)

/-- `OamDma` (R84): 256 bytes, then 513 more cycles on the storing instruction. -/
def oamDma (page : Byte) (s : State) : State :=
  let s1 := oamDmaCopy page 256 0 s
  s1.setCyc (s1.cyc + Config.oamDmaCycles)

/-- `BusWrite` (R61); writes to undecoded addresses and to program ROM are dropped (R65, R66, R68). -/
def busWrite (addr : Word) (v : Byte) (s : State) : State :=
  match busTarget addr with
  | .ram cell => s.setRam (s.ram.write cell v)
  | .port p => portWrite p v s
  | .dma => oamDma v s
  | .joy => s.setJoy (s.joy.write v)
  | .joy2 => s
  | .undecoded => s
  | .prg => s

/-- Two bus reads assembled low byte first (R70). -/
def readPair (lo hi : Word) (s : State) : Word × State :=
  let l := busRead lo s
  let h := busRead hi l.2
  (word l.1 h.1, h.2)

/-- `MemRead16` (R70). -/
def memRead16 (addr : Word) (s : State) : Word × State := readPair addr (addr + 1) s

/-- `MemRead16zp` (R71): the second byte comes from zero page even when `z = 0xFF`. -/
def memRead16zp (z : Byte) (s : State) : Word × State := readPair (zext16 z) (zext16 (z + 1)) s

/-- `MemRead16bug` (R71): the second byte comes from the same page as the first. -/
def memRead16bug (addr : Word) (s : State) : Word × State :=
  readPair addr ((addr &&& 0xFF00) ||| zext16 (loByte addr + 1)) s

end Sys2Proof.Machine
end

