-- ==== Sys2Proof/Machine/Flags.lean ====
section
/-! DEFINITION. The status register's bits (spec/10_state.md R23, R24) and the ALU: results and flags
(41_arithmetic.md R150 to R161, 42_logical_shift.md R170 to R178). An operation answers its result and the new P; a bit
of P it does not name is unchanged. -/

namespace Sys2Proof.Machine

/-- Bit numbers of P (R23). -/
def bitC : Nat := 0
def bitZ : Nat := 1
def bitI : Nat := 2
def bitD : Nat := 3
def bitB : Nat := 4
def bitU : Nat := 5
def bitV : Nat := 6
def bitN : Nat := 7

/-- Flag `k` of P. -/
def flag (k : Nat) (p : Byte) : Bool := p.getLsbD k

/-- P with flag `k` set to `b`. -/
def setFlag (k : Nat) (b : Bool) (p : Byte) : Byte := putField p k (bit1 b)

/-- R23's invariant of the register at every instruction boundary: B = 0 and U = 1. -/
def statusOk (p : Byte) : Bool := !flag bitB p && flag bitU p

/-- `SetZN` (00_scope.md R7). -/
def setZN (v p : Byte) : Byte := setFlag bitN (v.getLsbD 7) (setFlag bitZ (v == 0) p)

/-- The byte PHP and BRK push (R222, R215): B = 1 and U = 1. -/
def pushedByInstr (p : Byte) : Byte := p ||| 0x30

/-- The byte NMI entry pushes (60_exceptions.md R346): B = 0 and U = 1. -/
def pushedByNmi (p : Byte) : Byte := (p &&& 0xCF) ||| 0x20

/-- P after PLP or RTI pulled a byte (R224, R216): bits 5:4 of the byte are ignored. -/
def pulledP (b : Byte) : Byte := (b &&& 0xCF) ||| 0x20

/-- The adder of R150, R151: the 9-bit sum, C, V (from A before the write), Z and N. -/
def adc (a m p : Byte) : Byte × Byte :=
  let sum := a.toNat + m.toNat + (flag bitC p).toNat
  let r := BitVec.ofNat 8 sum
  let v := (~~~(a ^^^ m) &&& (a ^^^ r) &&& 0x80) != 0
  (r, setZN r (setFlag bitV v (setFlag bitC (decide (sum > 0xFF)) p)))

/-- SBC (R152): ADC of the one's complement. -/
def sbc (a m p : Byte) : Byte × Byte := adc a (m ^^^ 0xFF) p

/-- Compare a register with a byte (R153 to R155): C, Z, N. -/
def compareP (r m p : Byte) : Byte :=
  setFlag bitN ((r - m).getLsbD 7) (setFlag bitZ (r == m) (setFlag bitC (decide (m.toNat ≤ r.toNat)) p))

/-- AND (R171). -/
def andOp (a m p : Byte) : Byte × Byte := (a &&& m, setZN (a &&& m) p)

/-- ORA (R172). -/
def oraOp (a m p : Byte) : Byte × Byte := (a ||| m, setZN (a ||| m) p)

/-- EOR (R173). -/
def eorOp (a m p : Byte) : Byte × Byte := (a ^^^ m, setZN (a ^^^ m) p)

/-- BIT (R174): Z from the and, N and V from the memory byte. -/
def bitP (a m p : Byte) : Byte :=
  setFlag bitV (m.getLsbD 6) (setFlag bitN (m.getLsbD 7) (setFlag bitZ (a &&& m == 0) p))

/-- Increment (R156 to R158). -/
def incOp (m p : Byte) : Byte × Byte := (m + 1, setZN (m + 1) p)

/-- Decrement (R159 to R161). -/
def decOp (m p : Byte) : Byte × Byte := (m - 1, setZN (m - 1) p)

/-- ASL (R175). -/
def aslOp (m p : Byte) : Byte × Byte := (m <<< 1, setZN (m <<< 1) (setFlag bitC (m.getLsbD 7) p))

/-- LSR (R176). -/
def lsrOp (m p : Byte) : Byte × Byte := (m >>> 1, setZN (m >>> 1) (setFlag bitC (m.getLsbD 0) p))

/-- ROL (R177): the old carry enters bit 0. -/
def rolOp (m p : Byte) : Byte × Byte :=
  let r := putField (m <<< 1) 0 (bit1 (flag bitC p))
  (r, setZN r (setFlag bitC (m.getLsbD 7) p))

/-- ROR (R178): the old carry enters bit 7. -/
def rorOp (m p : Byte) : Byte × Byte :=
  let r := putField (m >>> 1) 7 (bit1 (flag bitC p))
  (r, setZN r (setFlag bitC (m.getLsbD 0) p))

end Sys2Proof.Machine
end

