-- ==== Sys2Proof/Machine/Ops.lean ====
section
/-! DEFINITION. The named operations over registers and the stack, entering a handler and returning from one
(spec/10_state.md R21, R22; 60_exceptions.md R346, R348, R349; 44_jumps_calls.md R215, R216). -/

namespace Sys2Proof.Machine

/-- The address of the stack byte `S` names: page 1 (R22). -/
def stackAddr (sp : Byte) : Word := 0x0100 ||| zext16 sp

/-- `Push` (R22): write, then decrement S, wrapping. -/
def push (v : Byte) (s : State) : State :=
  let s1 := busWrite (stackAddr s.sp) v s
  s1.setSp (s1.sp - 1)

/-- `Pull` (R22): increment S, wrapping, then read. -/
def pull (s : State) : Byte × State :=
  let s1 := s.setSp (s.sp + 1)
  busRead (stackAddr s1.sp) s1

/-- An address pushed high byte first (R210). -/
def pushWord (w : Word) (s : State) : State := push (loByte w) (push (hiByte w) s)

/-- An address pulled low byte first (R214, R216). -/
def pullWord (s : State) : Word × State :=
  let l := pull s
  let h := pull l.2
  (word l.1 h.1, h.2)

/-- `PC <- u16(PC + n)` (R21, R121). -/
def advance (n : Nat) (s : State) : State := s.setPc (s.pc + BitVec.ofNat 16 n)

/-- Entering a handler, the sequence NMI entry and BRK share (60_exceptions.md R348): push the saved address high byte
first, push the image of P, set I, load PC from the vector. -/
def enterHandler (ret : Word) (image : Byte) (vector : Word) (s : State) : State :=
  let s1 := push image (pushWord ret s)
  let s2 := s1.setP (setFlag bitI true s1.p)
  let r := memRead16 vector s2
  r.2.setPc r.1

/-- `NmiEntry` (60_exceptions.md R346): the saved address is PC itself. -/
def nmiEntry (s : State) : State :=
  enterHandler s.pc (pushedByNmi s.p) Config.vecNmi ((s.setNmiPending false).setCyc Config.nmiCycles)

/-- Returning from a handler (44_jumps_calls.md R216, 60_exceptions.md R349): pull P, then PC, with nothing added. -/
def returnFromHandler (s : State) : State :=
  let f := pull s
  let r := pullWord (f.2.setP (pulledP f.1))
  r.2.setPc r.1

end Sys2Proof.Machine
end

