-- ==== Sys2Proof/Machine/Cartridge.lean ====
section
/-! DEFINITION. Cartridge load, power-on, and what the host may do between two steps (spec/70_reset_and_hazards.md R370 to
R378; 49_master_clock.md R331). None of it is part of `step` (log entry 9). -/

namespace Sys2Proof.Machine

/-- Why a ROM file does not load (R377). -/
inductive FormatError where
  | truncated
  | badMagic
  | unsupportedMapper
  | unsupportedSize
deriving DecidableEq, Repr

/-- Byte `i` of a file; a byte past the end reads as 0 and is looked at by no check that passes. -/
def fileByte (bytes : List Byte) (i : Nat) : Byte := bytes.getD i 0

/-- `len` bytes of a file from offset `off` on, as an array. -/
def slice (bytes : List Byte) (off len : Nat) : Memory 8 := Memory.ofList ((bytes.drop off).take len)

/-- The mapper number of a header (R377). -/
def headerMapper (bytes : List Byte) : Byte := (fileByte bytes 7 &&& 0xF0) ||| (fileByte bytes 6 >>> 4)

/-- The mirroring mode of a header (R377). -/
def headerMirroring (bytes : List Byte) : Mirroring :=
  if (fileByte bytes 6).getLsbD 3 then .fourScreen
  else if (fileByte bytes 6).getLsbD 0 then .vertical else .horizontal

/-- The program size of a header byte 4 (R377): one or two units. -/
def headerPrgSize (units : Byte) : Option PrgSize :=
  if units = 1 then some .units1 else if units = 2 then some .units2 else none

/-- The file offset of the program image (R377): the header, and a trainer if there is one. -/
def headerPrgOffset (bytes : List Byte) : Nat := 16 + if (fileByte bytes 6).getLsbD 2 then 512 else 0

/-- `chr_len` (R377). -/
def headerChrLen (bytes : List Byte) : Nat := 8192 * (fileByte bytes 5).toNat

/-- The cartridge of a file whose header passed the checks, or the file is too short (R377). -/
def loadImage (bytes : List Byte) (size : PrgSize) : Except FormatError Cartridge :=
  let off := headerPrgOffset bytes
  if bytes.length < off + size.bytes + headerChrLen bytes then .error .truncated
  else .ok
    { prg := slice bytes off size.bytes
      prgSize := size
      chr := slice bytes (off + size.bytes) (headerChrLen bytes)
      chrIsRam := fileByte bytes 5 == 0
      mapper := headerMapper bytes
      mirroring := headerMirroring bytes }

/-- `LoadCartridge` (R377), the checks in the rule's order. -/
def loadCartridge (bytes : List Byte) : Except FormatError Cartridge :=
  if bytes.length < Config.headerSize then .error .truncated
  else if bytes.take 4 ≠ [0x4E, 0x45, 0x53, 0x1A] then .error .badMagic
  else if headerMapper bytes ≠ 0 then .error .unsupportedMapper
  else
    match headerPrgSize (fileByte bytes 4) with
    | none => .error .unsupportedSize
    | some size => if 1 < (fileByte bytes 5).toNat then .error .unsupportedSize else loadImage bytes size

/-- The memories whose power-on content is the OPEN parameter `INIT_MEM` (R374, D34). -/
structure InitMem where
  ram : Memory 8
  oam : Memory 8
  ntRam : Memory 8
  pal : Memory 6
deriving DecidableEq, Repr

/-- `INIT_MEM` = all 0x00, the default of 00_scope.md R5. -/
def InitMem.zero : InitMem := { ram := [], oam := [], ntRam := [], pal := [] }

/-- `reset()` (R371): the CPU's registers and the pending NMI; everything else is left alone (R372). -/
def State.hostReset (s : State) : State :=
  let s1 := { s with a := 0, x := 0, y := 0, sp := Config.resetS, p := Config.resetP, nmiPending := false }
  let r := memRead16 Config.vecReset s1
  r.2.setPc r.1

/-- Power-on with a loaded cartridge (R370): every state at its power-on value, then `reset()`. -/
def State.powerOnWith (q : Params) (m : InitMem) (c : Cartridge) : State :=
  State.hostReset
    { State.reset with
      ram := m.ram, cart := c, params := q
      ppu := { Ppu.powerOn with oam := m.oam, ntRam := m.ntRam, pal := m.pal } }

/-- Power-on with the parameters' default values. -/
def State.powerOn (c : Cartridge) : State := State.powerOnWith .default .zero c

/-- The host writes the button mask (48_joypad.md R311). -/
def State.setButtons (m : Byte) (s : State) : State := s.setJoy { s.joy with buttons := m }

end Sys2Proof.Machine
end

