-- ==== Sys2Proof/Machine/Operands.lean ====
section
/-! DEFINITION. The addressing modes (spec/30_encoding.md R103 to R115) and the shapes instructions share: a form that
reads its operand, one that stores, one that reads and writes back, a branch. Every shape sets `cyc` to its row's base
count and penalty (R122 to R124) before its bus write, which may add the DMA cost, and ends by advancing PC (R121). -/

namespace Sys2Proof.Machine

/-- An effective address with the page-cross condition `px`. -/
structure EffAddr where
  addr : Word
  px : Bool
deriving DecidableEq, Repr

/-- Two addresses lie in different pages. -/
def pageDiffers (u v : Word) : Bool := (u &&& 0xFF00) != (v &&& 0xFF00)

/-- An indexed address with its page-cross condition (R110, R111, R114): the sum wraps modulo 65536. -/
def indexed (base : Word) (index : Byte) : EffAddr :=
  { addr := base + zext16 index, px := pageDiffers base (base + zext16 index) }

/-- The effective address of an operand (R106 to R111, R113, R114), with the state after the pointer reads of the two
indirect modes. -/
def resolve (o : MemOperand) (s : State) : EffAddr × State :=
  match o with
  | .zp b => ({ addr := zext16 b, px := false }, s)
  | .zpx b => ({ addr := zext16 (b + s.x), px := false }, s)
  | .zpy b => ({ addr := zext16 (b + s.y), px := false }, s)
  | .abs w => ({ addr := w, px := false }, s)
  | .abx w => (indexed w s.x, s)
  | .aby w => (indexed w s.y, s)
  | .izx b => ({ addr := (memRead16zp (b + s.x) s).1, px := false }, (memRead16zp (b + s.x) s).2)
  | .izy b => (indexed (memRead16zp b s).1 s.y, (memRead16zp b s).2)

/-- The length of an instruction with this operand (R100). -/
def memLength (o : MemOperand) : Nat := o.toOperand.mode.length

/-- R123's penalty for the forms that read their operand. -/
def pagePenalty (e : EffAddr) : Nat := if e.px then 1 else 0

/-- A one-byte instruction of mode IMP or ACC that makes no bus access: effect, cost, next address. -/
def implied (base : Nat) (f : State → State) (s : State) : Result State :=
  .next (advance 1 (f (s.setCyc base)))

/-- The immediate form (R105) of an instruction that reads an operand byte. -/
def readImm (base : Nat) (f : Byte → State → State) (b : Byte) (s : State) : Result State :=
  .next (advance 2 (f b (s.setCyc base)))

/-- A memory form of an instruction that reads its operand: pointer reads, the operand read, the effect (R102). -/
def readMem (base : Nat) (f : Byte → State → State) (o : MemOperand) (s : State) : Result State :=
  let e := resolve o s
  let m := busRead e.1.addr e.2
  .next (advance (memLength o) (f m.1 (m.2.setCyc (base + pagePenalty e.1))))

/-- A store (R134 to R136): pointer reads, then one write; a fixed cost. -/
def storeMem (base : Nat) (v : Byte) (o : MemOperand) (s : State) : Result State :=
  let e := resolve o s
  .next (advance (memLength o) (busWrite e.1.addr v (e.2.setCyc base)))

/-- A read-modify-write memory form (R156, R159, R170): one read, then one write of the same address; a fixed cost. -/
def modifyMem (base : Nat) (f : Byte → Byte → Byte × Byte) (o : MemOperand) (s : State) : Result State :=
  let e := resolve o s
  let m := busRead e.1.addr e.2
  let r := f m.1 m.2.p
  .next (advance (memLength o) ((busWrite e.1.addr r.1 (m.2.setCyc base)).setP r.2))

/-- A shift or rotate of the accumulator (R104, R170). -/
def modifyAcc (base : Nat) (f : Byte → Byte → Byte × Byte) (s : State) : Result State :=
  implied base (fun s => let r := f s.a s.p; (s.setA r.1).setP r.2) s

/-- The branch target (R115). -/
def branchTarget (pc : Word) (off : Byte) : Word := pc + 2 + sext16 off

/-- The common branch operation (43_branches.md R190, 30_encoding.md R124). -/
def branchIf (cond : Bool) (off : Byte) (s : State) : Result State :=
  let next := s.pc + 2
  let target := branchTarget s.pc off
  if cond then .next ((s.setCyc (2 + 1 + if pageDiffers next target then 1 else 0)).setPc target)
  else .next ((s.setCyc 2).setPc next)

end Sys2Proof.Machine
end

