-- ==== Sys2Proof/Machine/Arithmetic.lean ====
section
/-! DEFINITION. Arithmetic, compare, increment and decrement (spec/41_arithmetic.md R150 to R162). One definition for each
opcode: base cycles from 30_encoding.md R117, the addressing mode's rule after the instruction's. -/

namespace Sys2Proof.Machine

/-- An ALU result into A, and the new P. -/
def aluA (r : Byte × Byte) (s : State) : State := (s.setA r.1).setP r.2
def adcA (m : Byte) (s : State) : State := aluA (adc s.a m s.p) s
def sbcA (m : Byte) (s : State) : State := aluA (sbc s.a m s.p) s
/-- A comparison's effect (R153 to R155): only P changes. -/
def cmpA (m : Byte) (s : State) : State := s.setP (compareP s.a m s.p)
def cmpX (m : Byte) (s : State) : State := s.setP (compareP s.x m s.p)
def cmpY (m : Byte) (s : State) : State := s.setP (compareP s.y m s.p)

/-- ADC IMM, 0x69 (R151, R105). -/
def execAdcImm (b : Byte) (s : State) : Result State := readImm 2 adcA b s

/-- ADC ZP, 0x65 (R151, R106). -/
def execAdcZp (b : Byte) (s : State) : Result State := readMem 3 adcA (.zp b) s

/-- ADC ZPX, 0x75 (R151, R107). -/
def execAdcZpx (b : Byte) (s : State) : Result State := readMem 4 adcA (.zpx b) s

/-- ADC ABS, 0x6D (R151, R109). -/
def execAdcAbs (w : Word) (s : State) : Result State := readMem 4 adcA (.abs w) s

/-- ADC ABX, 0x7D (R151, R110). -/
def execAdcAbx (w : Word) (s : State) : Result State := readMem 4 adcA (.abx w) s

/-- ADC ABY, 0x79 (R151, R111). -/
def execAdcAby (w : Word) (s : State) : Result State := readMem 4 adcA (.aby w) s

/-- ADC IZX, 0x61 (R151, R113). -/
def execAdcIzx (b : Byte) (s : State) : Result State := readMem 6 adcA (.izx b) s

/-- ADC IZY, 0x71 (R151, R114). -/
def execAdcIzy (b : Byte) (s : State) : Result State := readMem 5 adcA (.izy b) s

/-- SBC IMM, 0xE9 (R152, R105). -/
def execSbcImm (b : Byte) (s : State) : Result State := readImm 2 sbcA b s

/-- SBC ZP, 0xE5 (R152, R106). -/
def execSbcZp (b : Byte) (s : State) : Result State := readMem 3 sbcA (.zp b) s

/-- SBC ZPX, 0xF5 (R152, R107). -/
def execSbcZpx (b : Byte) (s : State) : Result State := readMem 4 sbcA (.zpx b) s

/-- SBC ABS, 0xED (R152, R109). -/
def execSbcAbs (w : Word) (s : State) : Result State := readMem 4 sbcA (.abs w) s

/-- SBC ABX, 0xFD (R152, R110). -/
def execSbcAbx (w : Word) (s : State) : Result State := readMem 4 sbcA (.abx w) s

/-- SBC ABY, 0xF9 (R152, R111). -/
def execSbcAby (w : Word) (s : State) : Result State := readMem 4 sbcA (.aby w) s

/-- SBC IZX, 0xE1 (R152, R113). -/
def execSbcIzx (b : Byte) (s : State) : Result State := readMem 6 sbcA (.izx b) s

/-- SBC IZY, 0xF1 (R152, R114). -/
def execSbcIzy (b : Byte) (s : State) : Result State := readMem 5 sbcA (.izy b) s

/-- CMP IMM, 0xC9 (R153, R105). -/
def execCmpImm (b : Byte) (s : State) : Result State := readImm 2 cmpA b s

/-- CMP ZP, 0xC5 (R153, R106). -/
def execCmpZp (b : Byte) (s : State) : Result State := readMem 3 cmpA (.zp b) s

/-- CMP ZPX, 0xD5 (R153, R107). -/
def execCmpZpx (b : Byte) (s : State) : Result State := readMem 4 cmpA (.zpx b) s

/-- CMP ABS, 0xCD (R153, R109). -/
def execCmpAbs (w : Word) (s : State) : Result State := readMem 4 cmpA (.abs w) s

/-- CMP ABX, 0xDD (R153, R110). -/
def execCmpAbx (w : Word) (s : State) : Result State := readMem 4 cmpA (.abx w) s

/-- CMP ABY, 0xD9 (R153, R111). -/
def execCmpAby (w : Word) (s : State) : Result State := readMem 4 cmpA (.aby w) s

/-- CMP IZX, 0xC1 (R153, R113). -/
def execCmpIzx (b : Byte) (s : State) : Result State := readMem 6 cmpA (.izx b) s

/-- CMP IZY, 0xD1 (R153, R114). -/
def execCmpIzy (b : Byte) (s : State) : Result State := readMem 5 cmpA (.izy b) s

/-- CPX IMM, 0xE0 (R154, R105). -/
def execCpxImm (b : Byte) (s : State) : Result State := readImm 2 cmpX b s

/-- CPX ZP, 0xE4 (R154, R106). -/
def execCpxZp (b : Byte) (s : State) : Result State := readMem 3 cmpX (.zp b) s

/-- CPX ABS, 0xEC (R154, R109). -/
def execCpxAbs (w : Word) (s : State) : Result State := readMem 4 cmpX (.abs w) s

/-- CPY IMM, 0xC0 (R155, R105). -/
def execCpyImm (b : Byte) (s : State) : Result State := readImm 2 cmpY b s

/-- CPY ZP, 0xC4 (R155, R106). -/
def execCpyZp (b : Byte) (s : State) : Result State := readMem 3 cmpY (.zp b) s

/-- CPY ABS, 0xCC (R155, R109). -/
def execCpyAbs (w : Word) (s : State) : Result State := readMem 4 cmpY (.abs w) s

/-- INC ZP, 0xE6 (R156, R106). -/
def execIncZp (b : Byte) (s : State) : Result State := modifyMem 5 incOp (.zp b) s

/-- INC ZPX, 0xF6 (R156, R107). -/
def execIncZpx (b : Byte) (s : State) : Result State := modifyMem 6 incOp (.zpx b) s

/-- INC ABS, 0xEE (R156, R109). -/
def execIncAbs (w : Word) (s : State) : Result State := modifyMem 6 incOp (.abs w) s

/-- INC ABX, 0xFE (R156, R110). -/
def execIncAbx (w : Word) (s : State) : Result State := modifyMem 7 incOp (.abx w) s

/-- INX IMP, 0xE8 (R157, R103). -/
def execInx (s : State) : Result State := implied 2 (fun s => (s.setX (incOp s.x s.p).1).setP (incOp s.x s.p).2) s

/-- INY IMP, 0xC8 (R158, R103). -/
def execIny (s : State) : Result State := implied 2 (fun s => (s.setY (incOp s.y s.p).1).setP (incOp s.y s.p).2) s

/-- DEC ZP, 0xC6 (R159, R106). -/
def execDecZp (b : Byte) (s : State) : Result State := modifyMem 5 decOp (.zp b) s

/-- DEC ZPX, 0xD6 (R159, R107). -/
def execDecZpx (b : Byte) (s : State) : Result State := modifyMem 6 decOp (.zpx b) s

/-- DEC ABS, 0xCE (R159, R109). -/
def execDecAbs (w : Word) (s : State) : Result State := modifyMem 6 decOp (.abs w) s

/-- DEC ABX, 0xDE (R159, R110). -/
def execDecAbx (w : Word) (s : State) : Result State := modifyMem 7 decOp (.abx w) s

/-- DEX IMP, 0xCA (R160, R103). -/
def execDex (s : State) : Result State := implied 2 (fun s => (s.setX (decOp s.x s.p).1).setP (decOp s.x s.p).2) s

/-- DEY IMP, 0x88 (R161, R103). -/
def execDey (s : State) : Result State := implied 2 (fun s => (s.setY (decOp s.y s.p).1).setP (decOp s.y s.p).2) s

end Sys2Proof.Machine
end

