-- ==== Sys2Proof/Machine/Branch.lean ====
section
/-! DEFINITION. Conditional branches (spec/43_branches.md R190 to R198). One definition for each
opcode: base cycles from 30_encoding.md R117, the addressing mode's rule after the instruction's. -/

namespace Sys2Proof.Machine

/-- BCC REL, 0x90 (R191, R115). -/
def execBcc (b : Byte) (s : State) : Result State := branchIf (!flag bitC s.p) b s

/-- BCS REL, 0xB0 (R192, R115). -/
def execBcs (b : Byte) (s : State) : Result State := branchIf (flag bitC s.p) b s

/-- BEQ REL, 0xF0 (R193, R115). -/
def execBeq (b : Byte) (s : State) : Result State := branchIf (flag bitZ s.p) b s

/-- BNE REL, 0xD0 (R194, R115). -/
def execBne (b : Byte) (s : State) : Result State := branchIf (!flag bitZ s.p) b s

/-- BMI REL, 0x30 (R195, R115). -/
def execBmi (b : Byte) (s : State) : Result State := branchIf (flag bitN s.p) b s

/-- BPL REL, 0x10 (R196, R115). -/
def execBpl (b : Byte) (s : State) : Result State := branchIf (!flag bitN s.p) b s

/-- BVC REL, 0x50 (R197, R115). -/
def execBvc (b : Byte) (s : State) : Result State := branchIf (!flag bitV s.p) b s

/-- BVS REL, 0x70 (R198, R115). -/
def execBvs (b : Byte) (s : State) : Result State := branchIf (flag bitV s.p) b s

end Sys2Proof.Machine
end

