-- ==== Sys2Proof/Machine/Jump.lean ====
section
/-! DEFINITION. Jumps, calls, returns, BRK and RTI (spec/44_jumps_calls.md R210 to R216). One definition for each
opcode: base cycles from 30_encoding.md R117, the addressing mode's rule after the instruction's. -/

namespace Sys2Proof.Machine

/-- JMP ABS, 0x4C (R211, R109). -/
def execJmpAbs (w : Word) (s : State) : Result State := .next ((s.setCyc 3).setPc w)

/-- JMP IND, 0x6C (R212, R112). -/
def execJmpInd (w : Word) (s : State) : Result State :=
  let r := memRead16bug w s
  .next ((r.2.setCyc 5).setPc r.1)

/-- JSR ABS, 0x20 (R213, R109). The saved address is that of the third byte. -/
def execJsr (w : Word) (s : State) : Result State := .next ((pushWord (s.pc + 2) (s.setCyc 6)).setPc w)

/-- RTS IMP, 0x60 (R214, R103). Adds 1 to the pulled address. -/
def execRts (s : State) : Result State :=
  let r := pullWord (s.setCyc 6)
  .next (r.2.setPc (r.1 + 1))

/-- BRK IMP, 0x00 (R215, R103). The byte after the opcode is skipped: the saved address is PC + 2. -/
def execBrk (s : State) : Result State :=
  .next (enterHandler (s.pc + 2) (pushedByInstr s.p) Config.vecBrk (s.setCyc 7))

/-- RTI IMP, 0x40 (R216, R103). -/
def execRti (s : State) : Result State := .next (returnFromHandler (s.setCyc 6))

end Sys2Proof.Machine
end

