-- ==== Sys2Proof/Machine/LoadStore.lean ====
section
/-! DEFINITION. Loads, stores and register transfers (spec/40_load_store_transfer.md R130 to R142). One definition for each
opcode: base cycles from 30_encoding.md R117, the addressing mode's rule after the instruction's. -/

namespace Sys2Proof.Machine

/-- A load's effect (R131 to R133): the register takes the byte, Z and N follow it. -/
def loadA (m : Byte) (s : State) : State := (s.setA m).setP (setZN m s.p)
def loadX (m : Byte) (s : State) : State := (s.setX m).setP (setZN m s.p)
def loadY (m : Byte) (s : State) : State := (s.setY m).setP (setZN m s.p)

/-- LDA IMM, 0xA9 (R131, R105). -/
def execLdaImm (b : Byte) (s : State) : Result State := readImm 2 loadA b s

/-- LDA ZP, 0xA5 (R131, R106). -/
def execLdaZp (b : Byte) (s : State) : Result State := readMem 3 loadA (.zp b) s

/-- LDA ZPX, 0xB5 (R131, R107). -/
def execLdaZpx (b : Byte) (s : State) : Result State := readMem 4 loadA (.zpx b) s

/-- LDA ABS, 0xAD (R131, R109). -/
def execLdaAbs (w : Word) (s : State) : Result State := readMem 4 loadA (.abs w) s

/-- LDA ABX, 0xBD (R131, R110). -/
def execLdaAbx (w : Word) (s : State) : Result State := readMem 4 loadA (.abx w) s

/-- LDA ABY, 0xB9 (R131, R111). -/
def execLdaAby (w : Word) (s : State) : Result State := readMem 4 loadA (.aby w) s

/-- LDA IZX, 0xA1 (R131, R113). -/
def execLdaIzx (b : Byte) (s : State) : Result State := readMem 6 loadA (.izx b) s

/-- LDA IZY, 0xB1 (R131, R114). -/
def execLdaIzy (b : Byte) (s : State) : Result State := readMem 5 loadA (.izy b) s

/-- LDX IMM, 0xA2 (R132, R105). -/
def execLdxImm (b : Byte) (s : State) : Result State := readImm 2 loadX b s

/-- LDX ZP, 0xA6 (R132, R106). -/
def execLdxZp (b : Byte) (s : State) : Result State := readMem 3 loadX (.zp b) s

/-- LDX ZPY, 0xB6 (R132, R108). -/
def execLdxZpy (b : Byte) (s : State) : Result State := readMem 4 loadX (.zpy b) s

/-- LDX ABS, 0xAE (R132, R109). -/
def execLdxAbs (w : Word) (s : State) : Result State := readMem 4 loadX (.abs w) s

/-- LDX ABY, 0xBE (R132, R111). -/
def execLdxAby (w : Word) (s : State) : Result State := readMem 4 loadX (.aby w) s

/-- LDY IMM, 0xA0 (R133, R105). -/
def execLdyImm (b : Byte) (s : State) : Result State := readImm 2 loadY b s

/-- LDY ZP, 0xA4 (R133, R106). -/
def execLdyZp (b : Byte) (s : State) : Result State := readMem 3 loadY (.zp b) s

/-- LDY ZPX, 0xB4 (R133, R107). -/
def execLdyZpx (b : Byte) (s : State) : Result State := readMem 4 loadY (.zpx b) s

/-- LDY ABS, 0xAC (R133, R109). -/
def execLdyAbs (w : Word) (s : State) : Result State := readMem 4 loadY (.abs w) s

/-- LDY ABX, 0xBC (R133, R110). -/
def execLdyAbx (w : Word) (s : State) : Result State := readMem 4 loadY (.abx w) s

/-- STA ZP, 0x85 (R134, R106). -/
def execStaZp (b : Byte) (s : State) : Result State := storeMem 3 s.a (.zp b) s

/-- STA ZPX, 0x95 (R134, R107). -/
def execStaZpx (b : Byte) (s : State) : Result State := storeMem 4 s.a (.zpx b) s

/-- STA ABS, 0x8D (R134, R109). -/
def execStaAbs (w : Word) (s : State) : Result State := storeMem 4 s.a (.abs w) s

/-- STA ABX, 0x9D (R134, R110). -/
def execStaAbx (w : Word) (s : State) : Result State := storeMem 5 s.a (.abx w) s

/-- STA ABY, 0x99 (R134, R111). -/
def execStaAby (w : Word) (s : State) : Result State := storeMem 5 s.a (.aby w) s

/-- STA IZX, 0x81 (R134, R113). -/
def execStaIzx (b : Byte) (s : State) : Result State := storeMem 6 s.a (.izx b) s

/-- STA IZY, 0x91 (R134, R114). -/
def execStaIzy (b : Byte) (s : State) : Result State := storeMem 6 s.a (.izy b) s

/-- STX ZP, 0x86 (R135, R106). -/
def execStxZp (b : Byte) (s : State) : Result State := storeMem 3 s.x (.zp b) s

/-- STX ZPY, 0x96 (R135, R108). -/
def execStxZpy (b : Byte) (s : State) : Result State := storeMem 4 s.x (.zpy b) s

/-- STX ABS, 0x8E (R135, R109). -/
def execStxAbs (w : Word) (s : State) : Result State := storeMem 4 s.x (.abs w) s

/-- STY ZP, 0x84 (R136, R106). -/
def execStyZp (b : Byte) (s : State) : Result State := storeMem 3 s.y (.zp b) s

/-- STY ZPX, 0x94 (R136, R107). -/
def execStyZpx (b : Byte) (s : State) : Result State := storeMem 4 s.y (.zpx b) s

/-- STY ABS, 0x8C (R136, R109). -/
def execStyAbs (w : Word) (s : State) : Result State := storeMem 4 s.y (.abs w) s

/-- TAX IMP, 0xAA (R137, R103). -/
def execTax (s : State) : Result State := implied 2 (fun s => loadX s.a s) s

/-- TAY IMP, 0xA8 (R138, R103). -/
def execTay (s : State) : Result State := implied 2 (fun s => loadY s.a s) s

/-- TXA IMP, 0x8A (R139, R103). -/
def execTxa (s : State) : Result State := implied 2 (fun s => loadA s.x s) s

/-- TYA IMP, 0x98 (R140, R103). -/
def execTya (s : State) : Result State := implied 2 (fun s => loadA s.y s) s

/-- TSX IMP, 0xBA (R141, R103). -/
def execTsx (s : State) : Result State := implied 2 (fun s => loadX s.sp s) s

/-- TXS IMP, 0x9A (R142, R103). -/
def execTxs (s : State) : Result State := implied 2 (fun s => s.setSp s.x) s

end Sys2Proof.Machine
end

