-- ==== Sys2Proof/Machine/Logic.lean ====
section
/-! DEFINITION. Logical operations, bit test, shifts and rotates (spec/42_logical_shift.md R170 to R178). One definition for each
opcode: base cycles from 30_encoding.md R117, the addressing mode's rule after the instruction's. -/

namespace Sys2Proof.Machine

def andA (m : Byte) (s : State) : State := aluA (andOp s.a m s.p) s
def oraA (m : Byte) (s : State) : State := aluA (oraOp s.a m s.p) s
def eorA (m : Byte) (s : State) : State := aluA (eorOp s.a m s.p) s
/-- BIT's effect (R174): only P changes. -/
def bitA (m : Byte) (s : State) : State := s.setP (bitP s.a m s.p)

/-- AND IMM, 0x29 (R171, R105). -/
def execAndImm (b : Byte) (s : State) : Result State := readImm 2 andA b s

/-- AND ZP, 0x25 (R171, R106). -/
def execAndZp (b : Byte) (s : State) : Result State := readMem 3 andA (.zp b) s

/-- AND ZPX, 0x35 (R171, R107). -/
def execAndZpx (b : Byte) (s : State) : Result State := readMem 4 andA (.zpx b) s

/-- AND ABS, 0x2D (R171, R109). -/
def execAndAbs (w : Word) (s : State) : Result State := readMem 4 andA (.abs w) s

/-- AND ABX, 0x3D (R171, R110). -/
def execAndAbx (w : Word) (s : State) : Result State := readMem 4 andA (.abx w) s

/-- AND ABY, 0x39 (R171, R111). -/
def execAndAby (w : Word) (s : State) : Result State := readMem 4 andA (.aby w) s

/-- AND IZX, 0x21 (R171, R113). -/
def execAndIzx (b : Byte) (s : State) : Result State := readMem 6 andA (.izx b) s

/-- AND IZY, 0x31 (R171, R114). -/
def execAndIzy (b : Byte) (s : State) : Result State := readMem 5 andA (.izy b) s

/-- ORA IMM, 0x09 (R172, R105). -/
def execOraImm (b : Byte) (s : State) : Result State := readImm 2 oraA b s

/-- ORA ZP, 0x05 (R172, R106). -/
def execOraZp (b : Byte) (s : State) : Result State := readMem 3 oraA (.zp b) s

/-- ORA ZPX, 0x15 (R172, R107). -/
def execOraZpx (b : Byte) (s : State) : Result State := readMem 4 oraA (.zpx b) s

/-- ORA ABS, 0x0D (R172, R109). -/
def execOraAbs (w : Word) (s : State) : Result State := readMem 4 oraA (.abs w) s

/-- ORA ABX, 0x1D (R172, R110). -/
def execOraAbx (w : Word) (s : State) : Result State := readMem 4 oraA (.abx w) s

/-- ORA ABY, 0x19 (R172, R111). -/
def execOraAby (w : Word) (s : State) : Result State := readMem 4 oraA (.aby w) s

/-- ORA IZX, 0x01 (R172, R113). -/
def execOraIzx (b : Byte) (s : State) : Result State := readMem 6 oraA (.izx b) s

/-- ORA IZY, 0x11 (R172, R114). -/
def execOraIzy (b : Byte) (s : State) : Result State := readMem 5 oraA (.izy b) s

/-- EOR IMM, 0x49 (R173, R105). -/
def execEorImm (b : Byte) (s : State) : Result State := readImm 2 eorA b s

/-- EOR ZP, 0x45 (R173, R106). -/
def execEorZp (b : Byte) (s : State) : Result State := readMem 3 eorA (.zp b) s

/-- EOR ZPX, 0x55 (R173, R107). -/
def execEorZpx (b : Byte) (s : State) : Result State := readMem 4 eorA (.zpx b) s

/-- EOR ABS, 0x4D (R173, R109). -/
def execEorAbs (w : Word) (s : State) : Result State := readMem 4 eorA (.abs w) s

/-- EOR ABX, 0x5D (R173, R110). -/
def execEorAbx (w : Word) (s : State) : Result State := readMem 4 eorA (.abx w) s

/-- EOR ABY, 0x59 (R173, R111). -/
def execEorAby (w : Word) (s : State) : Result State := readMem 4 eorA (.aby w) s

/-- EOR IZX, 0x41 (R173, R113). -/
def execEorIzx (b : Byte) (s : State) : Result State := readMem 6 eorA (.izx b) s

/-- EOR IZY, 0x51 (R173, R114). -/
def execEorIzy (b : Byte) (s : State) : Result State := readMem 5 eorA (.izy b) s

/-- BIT ZP, 0x24 (R174, R106). -/
def execBitZp (b : Byte) (s : State) : Result State := readMem 3 bitA (.zp b) s

/-- BIT ABS, 0x2C (R174, R109). -/
def execBitAbs (w : Word) (s : State) : Result State := readMem 4 bitA (.abs w) s

/-- ASL ACC, 0x0A (R175, R104). -/
def execAslAcc (s : State) : Result State := modifyAcc 2 aslOp s

/-- ASL ZP, 0x06 (R175, R106). -/
def execAslZp (b : Byte) (s : State) : Result State := modifyMem 5 aslOp (.zp b) s

/-- ASL ZPX, 0x16 (R175, R107). -/
def execAslZpx (b : Byte) (s : State) : Result State := modifyMem 6 aslOp (.zpx b) s

/-- ASL ABS, 0x0E (R175, R109). -/
def execAslAbs (w : Word) (s : State) : Result State := modifyMem 6 aslOp (.abs w) s

/-- ASL ABX, 0x1E (R175, R110). -/
def execAslAbx (w : Word) (s : State) : Result State := modifyMem 7 aslOp (.abx w) s

/-- LSR ACC, 0x4A (R176, R104). -/
def execLsrAcc (s : State) : Result State := modifyAcc 2 lsrOp s

/-- LSR ZP, 0x46 (R176, R106). -/
def execLsrZp (b : Byte) (s : State) : Result State := modifyMem 5 lsrOp (.zp b) s

/-- LSR ZPX, 0x56 (R176, R107). -/
def execLsrZpx (b : Byte) (s : State) : Result State := modifyMem 6 lsrOp (.zpx b) s

/-- LSR ABS, 0x4E (R176, R109). -/
def execLsrAbs (w : Word) (s : State) : Result State := modifyMem 6 lsrOp (.abs w) s

/-- LSR ABX, 0x5E (R176, R110). -/
def execLsrAbx (w : Word) (s : State) : Result State := modifyMem 7 lsrOp (.abx w) s

/-- ROL ACC, 0x2A (R177, R104). -/
def execRolAcc (s : State) : Result State := modifyAcc 2 rolOp s

/-- ROL ZP, 0x26 (R177, R106). -/
def execRolZp (b : Byte) (s : State) : Result State := modifyMem 5 rolOp (.zp b) s

/-- ROL ZPX, 0x36 (R177, R107). -/
def execRolZpx (b : Byte) (s : State) : Result State := modifyMem 6 rolOp (.zpx b) s

/-- ROL ABS, 0x2E (R177, R109). -/
def execRolAbs (w : Word) (s : State) : Result State := modifyMem 6 rolOp (.abs w) s

/-- ROL ABX, 0x3E (R177, R110). -/
def execRolAbx (w : Word) (s : State) : Result State := modifyMem 7 rolOp (.abx w) s

/-- ROR ACC, 0x6A (R178, R104). -/
def execRorAcc (s : State) : Result State := modifyAcc 2 rorOp s

/-- ROR ZP, 0x66 (R178, R106). -/
def execRorZp (b : Byte) (s : State) : Result State := modifyMem 5 rorOp (.zp b) s

/-- ROR ZPX, 0x76 (R178, R107). -/
def execRorZpx (b : Byte) (s : State) : Result State := modifyMem 6 rorOp (.zpx b) s

/-- ROR ABS, 0x6E (R178, R109). -/
def execRorAbs (w : Word) (s : State) : Result State := modifyMem 6 rorOp (.abs w) s

/-- ROR ABX, 0x7E (R178, R110). -/
def execRorAbx (w : Word) (s : State) : Result State := modifyMem 7 rorOp (.abx w) s

end Sys2Proof.Machine
end

