-- ==== Sys2Proof/Machine/StackFlag.lean ====
section
/-! DEFINITION. Stack, flag and no-operation instructions (spec/45_stack_flags_nop.md R220 to R232). One definition for each
opcode: base cycles from 30_encoding.md R117, the addressing mode's rule after the instruction's. -/

namespace Sys2Proof.Machine

/-- PHA IMP, 0x48 (R221, R103). -/
def execPha (s : State) : Result State := implied 3 (fun s => push s.a s) s

/-- PHP IMP, 0x08 (R222, R103). -/
def execPhp (s : State) : Result State := implied 3 (fun s => push (pushedByInstr s.p) s) s

/-- PLA IMP, 0x68 (R223, R103). -/
def execPla (s : State) : Result State := implied 4 (fun s => loadA (pull s).1 (pull s).2) s

/-- PLP IMP, 0x28 (R224, R103). -/
def execPlp (s : State) : Result State := implied 4 (fun s => (pull s).2.setP (pulledP (pull s).1)) s

/-- CLC IMP, 0x18 (R225, R103). -/
def execClc (s : State) : Result State := implied 2 (fun s => s.setP (setFlag bitC false s.p)) s

/-- SEC IMP, 0x38 (R226, R103). -/
def execSec (s : State) : Result State := implied 2 (fun s => s.setP (setFlag bitC true s.p)) s

/-- CLI IMP, 0x58 (R227, R103). -/
def execCli (s : State) : Result State := implied 2 (fun s => s.setP (setFlag bitI false s.p)) s

/-- SEI IMP, 0x78 (R228, R103). -/
def execSei (s : State) : Result State := implied 2 (fun s => s.setP (setFlag bitI true s.p)) s

/-- CLD IMP, 0xD8 (R229, R103). -/
def execCld (s : State) : Result State := implied 2 (fun s => s.setP (setFlag bitD false s.p)) s

/-- SED IMP, 0xF8 (R230, R103). -/
def execSed (s : State) : Result State := implied 2 (fun s => s.setP (setFlag bitD true s.p)) s

/-- CLV IMP, 0xB8 (R231, R103). -/
def execClv (s : State) : Result State := implied 2 (fun s => s.setP (setFlag bitV false s.p)) s

/-- NOP IMP, 0xEA (R232, R103). -/
def execNop (s : State) : Result State := implied 2 (fun s => s) s

end Sys2Proof.Machine
end

