-- ==== Sys2Proof/Machine/Fetch.lean ====
section
/-! DEFINITION. Fetching an instruction's bytes through the bus (spec/30_encoding.md R101, R102, R118; 20_memory.md R83)
and placing an instruction where the next fetch finds it. -/

namespace Sys2Proof.Machine

/-- What a fetch finds: an instruction, or one of the 105 illegal bytes. -/
inductive Fetched where
  | instr (i : Instr)
  | illegal (op : Byte)
deriving DecidableEq, Repr

/-- Fetch and decode at PC (R101): the opcode byte, then only the operand bytes its format has, in ascending order, each
an ordinary bus read with its side effect (R83). The state answered is the one after those reads. -/
def fetch (s : State) : Fetched × State :=
  let op := busRead s.pc s
  match opcodeFormat op.1 with
  | none => (.illegal op.1, op.2)
  | some (.f1 i) => (.instr i, op.2)
  | some (.f2 mk) =>
    let b1 := busRead (s.pc + 1) op.2
    (.instr (mk b1.1), b1.2)
  | some (.f3 mk) =>
    let b1 := busRead (s.pc + 1) op.2
    let b2 := busRead (s.pc + 2) b1.2
    (.instr (mk (word b1.1 b2.1)), b2.2)

/-- Store a byte in the memory a CPU address reads from: work RAM, or the program image, as loading a cartridge does.
An address that is neither keeps its content. -/
def pokeByte (addr : Word) (v : Byte) (s : State) : State :=
  match busTarget addr with
  | .ram cell => s.setRam (s.ram.write cell v)
  | .prg => s.setCart { s.cart with prg := s.cart.prg.write (mapPrg s.cart.prgSize addr) v }
  | _ => s

/-- A CPU address that names a memory cell, RAM or program ROM. -/
def isMemory (addr : Word) : Bool :=
  match busTarget addr with
  | .ram _ => true
  | .prg => true
  | _ => false

/-- Store bytes at ascending addresses, wrapping past 0xFFFF (10_state.md R21). -/
def pokeBytes (addr : Word) : List Byte → State → State
  | [], s => s
  | v :: vs, s => pokeBytes (addr + 1) vs (pokeByte addr v s)

/-- Where an instruction placed for the next fetch goes: PC, if three bytes from it are memory cells, else the first
address of program ROM (log entry 10). -/
def placeAddr (pc : Word) : Word :=
  if isMemory pc && isMemory (pc + 1) && isMemory (pc + 2) then pc else 0x8000

/-- The state whose very next step fetches and runs the instruction of a table word: the bytes stored where PC points,
and no fault latched and no NMI pending, either of which would come before a fetch (60_exceptions.md R345). -/
def placeWord (nbits w : Nat) (s : State) : State :=
  let a := placeAddr s.pc
  pokeBytes a (tableBytes nbits w) (((s.setPc a).setNmiPending false).setFault none)

end Sys2Proof.Machine
end

