-- ==== Sys2Proof/Machine/PpuPipeline.lean ====
section
/-! DEFINITION. The PPU's step, one dot (spec/47_ppu_pipeline.md R270 to R301): one definition for each operation the
rules name. `c` is the cartridge, which a dot only reads. -/

namespace Sys2Proof.Machine

/-- `ClearStatusFlags` (R273). -/
def Ppu.clearStatusFlags (p : Ppu) : Ppu := { p with vblank := false, spr0Hit := false, sprOverflow := false }

/-! Background pipeline -/

/-- `FetchNT` (R279). -/
def Ppu.fetchNT (c : Cartridge) (p : Ppu) : Ppu :=
  { p with ntByte := ppuRead c p (0x2000 ||| (p.v &&& 0x0FFF).setWidth 14) }

/-- The attribute byte's address (R280). -/
def attrAddr (v : BitVec 15) : PpuAddr :=
  (0x23C0 ||| (v &&& 0x0C00) ||| ((v >>> 4) &&& 0x38) ||| ((v >>> 2) &&& 0x07)).setWidth 14

/-- The shift that selects the 2-bit quadrant of an attribute byte (R280). -/
def attrShift (v : BitVec 15) : Nat := (((v >>> 4) &&& 0x04) ||| (v &&& 0x02)).toNat

/-- `FetchAT` (R280). -/
def Ppu.fetchAT (c : Cartridge) (p : Ppu) : Ppu :=
  { p with atBits := field (ppuRead c p (attrAddr p.v)) (attrShift p.v) 2 }

/-- The low plane's address of the background tile row `v` and the tile latch name (R281). -/
def Ppu.bgPatAddr (p : Ppu) : PpuAddr :=
  ((bit1 p.bgTable).setWidth 14 <<< 12) ||| (p.ntByte.setWidth 14 <<< 4) ||| (field p.v 12 3).setWidth 14

/-- `FetchPatLo` (R281). -/
def Ppu.fetchPatLo (c : Cartridge) (p : Ppu) : Ppu := { p with patLo := ppuRead c p p.bgPatAddr }

/-- `FetchPatHi` (R281): the same address plus 8. -/
def Ppu.fetchPatHi (c : Cartridge) (p : Ppu) : Ppu := { p with patHi := ppuRead c p (p.bgPatAddr + 8) }

/-- `IncCoarseX` on the address register (R282). -/
def incCoarseX (v : BitVec 15) : BitVec 15 :=
  if field v 0 5 = 31 then putField v 0 (0 : BitVec 5) ^^^ 0x0400 else putField v 0 (field v 0 5 + 1)

/-- `IncY` on the address register (R283). -/
def incY (v : BitVec 15) : BitVec 15 :=
  if field v 12 3 < 7 then putField v 12 (field v 12 3 + 1)
  else
    let u := putField v 12 (0 : BitVec 3)
    if field v 5 5 = 29 then putField u 5 (0 : BitVec 5) ^^^ 0x0800
    else if field v 5 5 = 31 then putField u 5 (0 : BitVec 5)
    else putField u 5 (field v 5 5 + 1)

/-- `CopyHoriz` (R284): coarse X and nametable X from `t`. -/
def copyHoriz (t v : BitVec 15) : BitVec 15 := putField (putField v 0 (field t 0 5)) 10 (field t 10 1)

/-- `CopyVert` (R285): coarse Y, nametable Y and fine Y from `t`. -/
def copyVert (t v : BitVec 15) : BitVec 15 :=
  putField (putField (putField v 5 (field t 5 5)) 11 (field t 11 1)) 12 (field t 12 3)

/-- `ShiftBg` (R286). -/
def Ppu.shiftBg (p : Ppu) : Ppu :=
  { p with bgShLo := p.bgShLo <<< 1, bgShHi := p.bgShHi <<< 1, atShLo := p.atShLo <<< 1, atShHi := p.atShHi <<< 1 }

/-- `ReloadBg` (R286). -/
def Ppu.reloadBg (p : Ppu) : Ppu :=
  { p with
    bgShLo := putField p.bgShLo 0 p.patLo
    bgShHi := putField p.bgShHi 0 p.patHi
    atShLo := putField p.atShLo 0 (if p.atBits.getLsbD 0 then 0xFF else 0x00 : Byte)
    atShHi := putField p.atShHi 0 (if p.atBits.getLsbD 1 then 0xFF else 0x00 : Byte) }

/-- The address register replaced; the only field the scroll arithmetic writes. -/
def Ppu.setV (v : BitVec 15) (p : Ppu) : Ppu := { p with v := v }

/-- The fetch of the 8-dot group that dot `d` makes (the case of R278). -/
def Ppu.fetchSlot (c : Cartridge) (d : Nat) (p : Ppu) : Ppu :=
  match (d - 1) % 8 with
  | 0 => p.fetchNT c
  | 2 => p.fetchAT c
  | 4 => p.fetchPatLo c
  | 6 => p.fetchPatHi c
  | 7 => p.setV (incCoarseX p.v)
  | _ => p

/-- The dots that shift (R278). -/
def shiftDot (d : Nat) : Bool := (decide (2 ≤ d) && decide (d ≤ 257)) || (decide (322 ≤ d) && decide (d ≤ 337))

/-- The dots that reload (R278). -/
def reloadDot (d : Nat) : Bool :=
  (decide (9 ≤ d) && decide (d ≤ 257) && d % 8 == 1) || d == 329 || d == 337

/-- The dots that fetch (R278). -/
def fetchDot (d : Nat) : Bool := (decide (1 ≤ d) && decide (d ≤ 256)) || (decide (321 ≤ d) && decide (d ≤ 336))

/-- The shift of R278, on the dots that shift. -/
def Ppu.shiftStep (d : Nat) (p : Ppu) : Ppu := if shiftDot d then p.shiftBg else p

/-- The reload of R278. -/
def Ppu.reloadStep (d : Nat) (p : Ppu) : Ppu := if reloadDot d then p.reloadBg else p

/-- The fetch of R278. -/
def Ppu.fetchStep (c : Cartridge) (d : Nat) (p : Ppu) : Ppu := if fetchDot d then p.fetchSlot c d else p

/-- `IncY` at dot 256 (R278). -/
def Ppu.incYStep (d : Nat) (p : Ppu) : Ppu := if d = 256 then p.setV (incY p.v) else p

/-- `CopyHoriz` at dot 257 (R278). -/
def Ppu.copyHorizStep (d : Nat) (p : Ppu) : Ppu := if d = 257 then p.setV (copyHoriz p.t p.v) else p

/-- `CopyVert` at dots 280..304 of the pre-render line (R278). -/
def Ppu.copyVertStep (s d : Nat) (p : Ppu) : Ppu :=
  if s = Config.prerenderLine ∧ 280 ≤ d ∧ d ≤ 304 then p.setV (copyVert p.t p.v) else p

/-- `BackgroundDot` (R278): the six operations in the rule's order. -/
def Ppu.backgroundDot (c : Cartridge) (s d : Nat) (p : Ppu) : Ppu :=
  (((((p.shiftStep d).reloadStep d).fetchStep c d).incYStep d).copyHorizStep d).copyVertStep s d

/-- A pixel's 2-bit value and palette. -/
structure BgPixel where
  px : BitVec 2
  pal : BitVec 2
deriving DecidableEq, Repr

/-- The background's contribution to column `x` (R287); fine X selects the tap. -/
def Ppu.bgPixel (p : Ppu) (x : Nat) : BgPixel :=
  if p.showBg && (decide (8 ≤ x) || p.bgLeft) then
    let m := 15 - p.x.toNat
    { px := bit1 (p.bgShHi.getLsbD m) ++ bit1 (p.bgShLo.getLsbD m)
      pal := bit1 (p.atShHi.getLsbD m) ++ bit1 (p.atShLo.getLsbD m) }
  else { px := 0, pal := 0 }

/-! Sprite pipeline -/

/-- The sprite height `h` (R289). -/
def Ppu.sprHeight (p : Ppu) : Nat := if p.sprSize then 16 else 8

/-- `InRange` (R289) on integers. -/
def inRange (h s : Nat) (y : Byte) : Bool := decide (y.toNat ≤ s) && decide (s - y.toNat < h)

/-- Phase 1 of evaluation (R289): its counters and the secondary OAM it fills. -/
structure SprEval where
  n : Nat
  cnt : Nat
  zero : Bool
  sec : Memory 8
deriving DecidableEq, Repr

/-- Entry `n` of OAM copied to entry `cnt` of the secondary OAM (R289). -/
def copyEntry (oam : Memory 8) (n cnt : Nat) (sec : Memory 8) : Memory 8 :=
  (((sec.write (4 * cnt) (oam.read (4 * n))).write (4 * cnt + 1) (oam.read (4 * n + 1))).write (4 * cnt + 2)
    (oam.read (4 * n + 2))).write (4 * cnt + 3) (oam.read (4 * n + 3))

/-- Phase 1 of R289: the first eight entries in range, in OAM order; `fuel` counts the entries left. -/
def evalPhase1 (oam : Memory 8) (h s : Nat) : Nat → SprEval → SprEval
  | 0, e => e
  | fuel + 1, e =>
    if e.n < 64 ∧ e.cnt < Config.secOamMax then
      evalPhase1 oam h s fuel
        (if inRange h s (oam.read (4 * e.n)) then
          { n := e.n + 1, cnt := e.cnt + 1, zero := e.zero || e.n == 0, sec := copyEntry oam e.n e.cnt e.sec }
        else { e with n := e.n + 1 })
    else e

/-- Phase 2 of R289, the overflow quirk: whether a byte in range is met when the byte offset advances with the entry. -/
def evalPhase2 (oam : Memory 8) (h s : Nat) : Nat → Nat → Nat → Bool
  | 0, _, _ => false
  | fuel + 1, n, m =>
    if n < 64 then
      if inRange h s (oam.read (4 * n + m)) then true else evalPhase2 oam h s fuel (n + 1) ((m + 1) % 4)
    else false

/-- `EvaluateSprites` (R289). The overflow flag is only ever set here. -/
def Ppu.evaluateSprites (s : Nat) (p : Ppu) : Ppu :=
  let e := evalPhase1 p.oam p.sprHeight s 64 { n := 0, cnt := 0, zero := false, sec := p.sec }
  { p with
    sec := e.sec
    sprOverflow := p.sprOverflow || evalPhase2 p.oam p.sprHeight s 64 e.n 0
    secCount := e.cnt
    spr0OnLine := e.zero }

/-- The sprite's row on scanline `s`, flipped vertically over its whole height if asked (R290). -/
def sprRow (h s : Nat) (y attr : Byte) : Nat :=
  let row := s - y.toNat
  if attr.getLsbD 7 then h - 1 - row else row

/-- The low plane's address of a sprite row (R290). -/
def sprPatAddr (tall table : Bool) (tile : Byte) (row : Nat) : PpuAddr :=
  let r : PpuAddr := BitVec.ofNat 14 row
  if tall then
    ((tile &&& 0x01).setWidth 14 <<< 12) ||| ((tile &&& 0xFE).setWidth 14 <<< 4) ||| ((r &&& 8) <<< 1) ||| (r &&& 7)
  else ((bit1 table).setWidth 14 <<< 12) ||| (tile.setWidth 14 <<< 4) ||| r

/-- One sprite of `FetchSprites` (R290). -/
def Ppu.fetchSprite (c : Cartridge) (s i : Nat) (p : Ppu) : Ppu :=
  let attr := p.sec.read (4 * i + 2)
  let row := sprRow p.sprHeight s (p.sec.read (4 * i)) attr
  let a := sprPatAddr p.sprSize p.sprTable (p.sec.read (4 * i + 1)) row
  let lo := ppuRead c p a
  let hi := ppuRead c p (a + 8)
  { p with
    sprLo := p.sprLo.write i (if attr.getLsbD 6 then reverse8 lo else lo)
    sprHi := p.sprHi.write i (if attr.getLsbD 6 then reverse8 hi else hi)
    sprAttr := p.sprAttr.write i attr
    sprX := p.sprX.write i (p.sec.read (4 * i + 3)) }

/-- `FetchSprites` (R290) for `k` sprites from index `i` on. -/
def Ppu.fetchSprites (c : Cartridge) (s : Nat) : Nat → Nat → Ppu → Ppu
  | 0, _, p => p
  | k + 1, i, p => Ppu.fetchSprites c s k (i + 1) (p.fetchSprite c s i)

/-- `SpriteLineSetup` (R288). -/
def Ppu.spriteLineSetup (c : Cartridge) (s : Nat) (p : Ppu) : Ppu :=
  if s < Config.fbHeight && p.rendering then
    let q := p.evaluateSprites s
    Ppu.fetchSprites c s q.secCount 0 q
  else if s < Config.fbHeight || s == Config.prerenderLine then { p with secCount := 0, spr0OnLine := false }
  else p

/-- What the sprites contribute to a column (R292). -/
structure SprPixel where
  px : BitVec 2
  pal : BitVec 2
  behind : Bool
  isZero : Bool
deriving DecidableEq, Repr

/-- No opaque sprite pixel (R292). -/
def SprPixel.none : SprPixel := { px := 0, pal := 0, behind := false, isZero := false }

/-- The 2-bit pixel of sprite `i` at offset `off` from its left edge (R292). -/
def Ppu.sprBits (p : Ppu) (i off : Nat) : BitVec 2 :=
  bit1 ((p.sprHi.read i).getLsbD (7 - off)) ++ bit1 ((p.sprLo.read i).getLsbD (7 - off))

/-- Sprite `i` covers column `x` with an opaque pixel (R292). -/
def Ppu.sprOpaque (p : Ppu) (x i : Nat) : Bool :=
  let sx := (p.sprX.read i).toNat
  decide (sx ≤ x) && decide (x - sx ≤ 7) && p.sprBits i (x - sx) != 0

/-- The scan of R292: `k` sprites from index `i` on, ascending; the first opaque one wins. -/
def Ppu.sprScan (p : Ppu) (x : Nat) : Nat → Nat → SprPixel
  | 0, _ => .none
  | k + 1, i =>
    if p.sprOpaque x i then
      { px := p.sprBits i (x - (p.sprX.read i).toNat)
        pal := field (p.sprAttr.read i) 0 2
        behind := (p.sprAttr.read i).getLsbD 5
        isZero := i == 0 && p.spr0OnLine }
    else p.sprScan x k (i + 1)

/-- `SpritePixel` (R292). -/
def Ppu.sprPixel (p : Ppu) (x : Nat) : SprPixel :=
  if p.showSpr && (decide (8 ≤ x) || p.sprLeft) then p.sprScan x p.secCount 0 else .none

/-! Compositor -/

/-- Palette address `0x3F00 | pal << 2 | px`, or `0x3F10 | …` for a sprite (R296). -/
def palAddr (sprite : Bool) (pal px : BitVec 2) : PpuAddr :=
  (if sprite then 0x3F10 else 0x3F00) ||| (pal ++ px).setWidth 14

/-- The compositor's choice of palette address (R296). -/
def composite (b : BgPixel) (s : SprPixel) : PpuAddr :=
  if b.px = 0 ∧ s.px = 0 then 0x3F00
  else if b.px = 0 then palAddr true s.pal s.px
  else if s.px = 0 then palAddr false b.pal b.px
  else if s.behind then palAddr false b.pal b.px
  else palAddr true s.pal s.px

/-- The compositor's sprite-0 check (R296, R297): both pixels opaque, sprite 0 the winner, not column 255. -/
def sprite0Hits (x : Nat) (b : BgPixel) (s : SprPixel) : Bool :=
  b.px != 0 && s.px != 0 && s.isZero && x != 255

/-- The cell `WritePixel` stores (R298): palette entry, grayscale, emphasis bits. -/
def Ppu.pixelCell (p : Ppu) (a : PpuAddr) : Pixel :=
  let col := p.pal.read (palIndex a)
  field p.mask 5 3 ++ (if p.grayscale then col &&& 0x30 else col)

/-- Cell index of `fb[y][x]` (10_state.md R43). -/
def fbIndex (x y : Nat) : Nat := Config.fbWidth * y + x

/-- `OutputPixel` (R296 to R298). -/
def Ppu.outputPixel (x y : Nat) (p : Ppu) : Ppu :=
  let b := p.bgPixel x
  let s := p.sprPixel x
  { p with
    spr0Hit := p.spr0Hit || sprite0Hits x b s
    fb := p.fb.write (fbIndex x y) (p.pixelCell (composite b s)) }

/-! VBlank, counters, the dot -/

/-- `EnterVBlank` (R300), the only place `nmi_out` is set. -/
def Ppu.enterVBlank (p : Ppu) : Ppu :=
  { p with vblank := true, frameComplete := true, nmiOut := p.nmiOut || p.nmiEnable }

/-- The raster position replaced. -/
def Ppu.setRaster (scanline dot frame : Nat) (p : Ppu) : Ppu :=
  { p with scanline := scanline, dot := dot, frame := frame }

/-- `AdvanceCounters` (R272). -/
def Ppu.advanceCounters (p : Ppu) : Ppu :=
  if p.dot + 1 = Config.dotsPerLine then
    if p.scanline + 1 = Config.linesPerFrame then p.setRaster 0 0 (p.frame + 1) else p.setRaster (p.scanline + 1) 0 p.frame
  else p.setRaster p.scanline (p.dot + 1) p.frame

/-- A render line (R270): visible or pre-render. -/
def renderLine (s : Nat) : Bool := decide (s < Config.fbHeight) || s == Config.prerenderLine

/-- Sub-step 1 of R271: the status flags are cleared at dot 1 of the pre-render line. -/
def Ppu.clearStep (s d : Nat) (p : Ppu) : Ppu :=
  if s = Config.prerenderLine ∧ d = 1 then p.clearStatusFlags else p

/-- Sub-step 2 of R271: the background pipeline, on render lines while rendering. -/
def Ppu.backgroundStep (c : Cartridge) (s d : Nat) (p : Ppu) : Ppu :=
  if p.rendering && renderLine s then p.backgroundDot c s d else p

/-- Sub-step 3 of R271: the sprites of the line, at dot 257. -/
def Ppu.spriteStep (c : Cartridge) (s d : Nat) (p : Ppu) : Ppu := if d = 257 then p.spriteLineSetup c s else p

/-- Sub-step 4 of R271: one pixel, at dots 1..256 of visible lines. -/
def Ppu.outputStep (s d : Nat) (p : Ppu) : Ppu :=
  if s < Config.fbHeight ∧ 1 ≤ d ∧ d ≤ 256 then p.outputPixel (d - 1) s else p

/-- Sub-step 5 of R271: VBlank. -/
def Ppu.vblankStep (s d : Nat) (p : Ppu) : Ppu :=
  if s = Config.vblankLine ∧ d = Config.vblankDot then p.enterVBlank else p

/-- The work of dot `d` of line `s` before the counters advance: sub-steps 1 to 5 of R271 in order. -/
def Ppu.dotWork (c : Cartridge) (s d : Nat) (p : Ppu) : Ppu :=
  ((((p.clearStep s d).backgroundStep c s d).spriteStep c s d).outputStep s d).vblankStep s d

/-- `PpuTick` (R271). -/
def Ppu.tick (c : Cartridge) (p : Ppu) : Ppu := (p.dotWork c p.scanline p.dot).advanceCounters

/-- `n` dots. -/
def Ppu.ticks (c : Cartridge) : Nat → Ppu → Ppu
  | 0, p => p
  | n + 1, p => Ppu.ticks c n (p.tick c)

end Sys2Proof.Machine
end

