-- ==== Sys2Proof/Machine/Clock.lean ====
section
/-! DEFINITION. The master clock (spec/49_master_clock.md R325 to R336): the CPU's step, the dots it is owed, the NMI
hand-over, and the host's frame-level operation. -/

namespace Sys2Proof.Machine

/-- `CpuStep` (R327): NMI entry if one is pending, else fetch, decode and execute one instruction. -/
def cpuStep (s : State) : Result State :=
  if s.nmiPending then .next (nmiEntry s)
  else
    match fetch s with
    | (.instr i, s1) => exec i s1
    | (.illegal op, _) => .fault (.illegalOpcode s.pc op)

/-- The dots a CPU step of `cyc` cycles is owed and both counters (R326, R330). -/
def runDots (s : State) : State :=
  let dots := Config.ppuPerCpu * s.cyc
  (s.setPpu (s.ppu.ticks s.cart dots)).setClk
    { cpuCycles := s.clk.cpuCycles + s.cyc, ppuDots := s.clk.ppuDots + dots }

/-- `NmiHandOver` (R328). -/
def nmiHandOver (s : State) : State :=
  if s.ppu.nmiOut then (s.setPpu { s.ppu with nmiOut := false }).setNmiPending true else s

/-- What follows a CPU step that did not fault (R326). -/
def endStep (s : State) : State := nmiHandOver (runDots s)

/-- One step of the machine as the host sees it: `DriverStep` (R326), whose halt is answered as a fault (log entry 1). -/
def clockStep (s : State) : Result State :=
  match s.fault with
  | some f => .fault f
  | none =>
    match cpuStep s with
    | .next s1 => .next (endStep s1)
    | .fault f => .fault f
    | .refused r => .refused r

/-- The state a faulting step leaves (R118, R335, R340): the fault latched, nothing else but the fetch's read side
effect (log entry 5). -/
def haltedBy (f : Fault) (s : State) : State := (fetch s).2.setFault (some f)

/-- `DriverStep` (R326) as a function on states, with the fault latch: a halted machine stays as it is (R335). -/
def driverStep (s : State) : State :=
  match s.fault with
  | some _ => s
  | none =>
    match cpuStep s with
    | .next s1 => endStep s1
    | .fault f => haltedBy f s
    | .refused _ => s

/-- The loop of `RunFrame` (R329), at most `n` driver steps. -/
def runUntilFrame : Nat → State → State
  | 0, s => s
  | n + 1, s =>
    let s1 := driverStep s
    if s1.ppu.frameComplete || s1.fault.isSome then s1 else runUntilFrame n s1

/-- More driver steps than a frame can take: each ticks at least 6 of the 89342 dots (R336; log entry 8). -/
def frameBound : Nat := 14891

/-- `RunFrame` (R329): the loop, then `frame_complete` cleared. -/
def runFrame (s : State) : State :=
  let s1 := runUntilFrame frameBound s
  s1.setPpu { s1.ppu with frameComplete := false }

end Sys2Proof.Machine
end

