-- ==== Sys2Proof/Machine/Step.lean ====
section
/-! DEFINITION. The machine's step, and placing an instruction for it. Both only call what Machine/Clock.lean and
Machine/Fetch.lean define. -/

namespace Sys2Proof.Machine

/-- One step: `DriverStep` (spec/49_master_clock.md R326). -/
def step (s : State) : Host.Outcome State Fault Refusal := clockStep s

/-- `s` with a table word's instruction where `step` fetches its next instruction. -/
def State.withFetchWord (s : State) (nbits w : Nat) : State := placeWord nbits w s

end Sys2Proof.Machine
end

