-- ==== Sys2Proof/Safety.lean ====
section
/-! DEFINITION. What holds of the machine between two steps, and what a safe run is. -/

namespace Sys2Proof.Machine

/-- `ppu.nt_ram`'s size under a mirroring mode (spec/10_state.md R38). -/
def Mirroring.ntSize : Mirroring → Nat
  | .horizontal => 2048
  | .vertical => 2048
  | .fourScreen => 4096

/-- Every array is canonical and within its size (10_state.md R28, R29, R33, R34, R38, R39, R43). -/
structure State.MemoryOk (s : State) : Prop where
  ram : s.ram.wf 2048 = true
  prg : s.cart.prg.wf s.cart.prgSize.bytes = true
  chr : s.cart.chr.wf 8192 = true
  oam : s.ppu.oam.wf 256 = true
  sec : s.ppu.sec.wf 32 = true
  sprLo : s.ppu.sprLo.wf 8 = true
  sprHi : s.ppu.sprHi.wf 8 = true
  sprAttr : s.ppu.sprAttr.wf 8 = true
  sprX : s.ppu.sprX.wf 8 = true
  ntRam : s.ppu.ntRam.wf s.cart.mirroring.ntSize = true
  pal : s.ppu.pal.wf 32 = true
  fb : s.ppu.fb.wf 61440 = true

/-- The raster counters are in range (R40). -/
def Ppu.rasterOk (p : Ppu) : Prop := p.scanline < 262 ∧ p.dot < 341

/-- The invariant of the machine between two steps. -/
structure State.Inv (s : State) : Prop where
  memory : s.MemoryOk
  /-- `P.B = 0` and `P.U = 1` (R23). -/
  status : statusOk s.p = true
  raster : s.ppu.rasterOk
  /-- At most eight sprites on a line (R34). -/
  sprites : s.ppu.secCount ≤ 8
  /-- The joypad index stays in 0..8 (48_joypad.md R316). -/
  joypad : s.joy.index ≤ 8
  /-- Three dots a CPU cycle (R44). -/
  clock : s.clk.ppuDots = 3 * s.clk.cpuCycles
  /-- The hand-over has emptied `nmi_out` (70_reset_and_hazards.md R372). -/
  handedOver : s.ppu.nmiOut = false

/-- A run of `k` steps that meets no fault: it never fetches an illegal opcode. -/
def SafeRun (k : Nat) (s : State) : Prop := ∃ t, Sys2Proof.core.run k s = .next t

end Sys2Proof.Machine
end

