-- ==== Sys2Proof/Certificates/Slice0/Obligations.lean ====
section
/-! DEFINITION. The statements for the provers. `Sys2Proof.Spec` is their vocabulary, written from the rules in Nat and
Int arithmetic beside the model's bit vectors; `OBLIGATIONS.json` gives each statement's rule. -/

namespace Sys2Proof.Spec
open Sys2Proof.Machine

/-! Addressing modes and costs (spec/30_encoding.md R105 to R124) -/

/-- The little-endian pointer at zero-page cell `z`, its second byte wrapping inside the page (20_memory.md R71). -/
def pointer (s : State) (z : Nat) : Nat := (s.ram.read z).toNat + 256 * (s.ram.read ((z + 1) % 256)).toNat

/-- The address a memory operand names (R106 to R114). -/
def address (s : State) : MemOperand → Nat
  | .zp b => b.toNat
  | .zpx b => (b.toNat + s.x.toNat) % 256
  | .zpy b => (b.toNat + s.y.toNat) % 256
  | .abs w => w.toNat
  | .abx w => (w.toNat + s.x.toNat) % 65536
  | .aby w => (w.toNat + s.y.toNat) % 65536
  | .izx b => pointer s ((b.toNat + s.x.toNat) % 256)
  | .izy b => (pointer s b.toNat + s.y.toNat) % 65536

/-- That address on the bus. -/
def busAddress (s : State) (o : MemOperand) : Word := BitVec.ofNat 16 (address s o)

/-- The indexed address lies in another page than its base: the low bytes' sum carries (R110, R111, R114). -/
def crosses (s : State) : MemOperand → Nat
  | .zp _ => 0
  | .zpx _ => 0
  | .zpy _ => 0
  | .abs _ => 0
  | .abx w => (w.toNat % 256 + s.x.toNat) / 256
  | .aby w => (w.toNat % 256 + s.y.toNat) / 256
  | .izx _ => 0
  | .izy b => ((s.ram.read b.toNat).toNat + s.y.toNat) / 256

/-- Cycles of a form that reads its operand (R117, R123). -/
def readCost (s : State) : MemOperand → Nat
  | .zp _ => 3
  | .zpx _ => 4
  | .zpy _ => 4
  | .abs _ => 4
  | .abx w => 4 + crosses s (.abx w)
  | .aby w => 4 + crosses s (.aby w)
  | .izx _ => 6
  | .izy b => 5 + crosses s (.izy b)

/-- Cycles of a store (R117, R123). -/
def storeCost : MemOperand → Nat
  | .zp _ => 3
  | .zpx _ => 4
  | .zpy _ => 4
  | .abs _ => 4
  | .abx _ => 5
  | .aby _ => 5
  | .izx _ => 6
  | .izy _ => 6

/-- Cycles of a read-modify-write form (R117, R123); these instructions have the ZP, ZPX, ABS and ABX forms only. -/
def modifyCost : MemOperand → Nat
  | .zp _ => 5
  | .zpx _ => 6
  | .zpy _ => 6
  | .abs _ => 6
  | .abx _ => 7
  | .aby _ => 7
  | .izx _ => 8
  | .izy _ => 8

/-- The 513 cycles of OAM DMA, if the address written is 0x4014 (R122). -/
def dmaCost (addr : Nat) : Nat := if addr = 0x4014 then 513 else 0

/-- Bytes of an instruction with a memory operand (R100). -/
def size : MemOperand → Nat
  | .zp _ => 2
  | .zpx _ => 2
  | .zpy _ => 2
  | .abs _ => 3
  | .abx _ => 3
  | .aby _ => 3
  | .izx _ => 2
  | .izy _ => 2

/-- The operand as a memory operand, if its mode names a data address. -/
def dataOperand : Operand → Option MemOperand
  | .imp => none
  | .acc => none
  | .imm _ => none
  | .zp b => some (.zp b)
  | .zpx b => some (.zpx b)
  | .zpy b => some (.zpy b)
  | .abs w => some (.abs w)
  | .abx w => some (.abx w)
  | .aby w => some (.aby w)
  | .ind _ => none
  | .izx b => some (.izx b)
  | .izy b => some (.izy b)
  | .rel _ => none

/-- An operand byte as an instruction that only reads finds it: the byte, the state after the read's side effect, the
cycles and the length of the form. -/
structure Source where
  byte : Byte
  after : State
  cycles : Nat
  length : Nat

/-- The operand byte of an immediate or memory form (R105 to R114); none for the other modes. -/
def source (s : State) (o : Operand) : Option Source :=
  match o with
  | .imm b => some { byte := b, after := s, cycles := 2, length := 2 }
  | _ =>
    (dataOperand o).map fun m =>
      { byte := (busRead (busAddress s m) s).1, after := (busRead (busAddress s m) s).2, cycles := readCost s m,
        length := size m }

/-! Registers, flags and what stays the same -/

/-- A, X, Y and S hold the given values. -/
def Regs (t : State) (a x y sp : Byte) : Prop := t.a = a ∧ t.x = x ∧ t.y = y ∧ t.sp = sp

/-- PC moved past `len` bytes, `cyc` cycles reported (R121, R122). -/
def Ends (s t : State) (len cyc : Nat) : Prop := t.pc.toNat = (s.pc.toNat + len) % 65536 ∧ t.cyc = cyc

/-- `t` agrees with `u` outside the CPU's registers: memory, devices, latches, clock, parameters. -/
def SameDevices (u t : State) : Prop :=
  t.ram = u.ram ∧ t.cart = u.cart ∧ t.ppu = u.ppu ∧ t.joy = u.joy ∧ t.clk = u.clk ∧ t.nmiPending = u.nmiPending ∧
    t.fault = u.fault ∧ t.params = u.params

/-- `SameDevices` but for work RAM. -/
def SameButRam (u t : State) : Prop :=
  t.cart = u.cart ∧ t.ppu = u.ppu ∧ t.joy = u.joy ∧ t.clk = u.clk ∧ t.nmiPending = u.nmiPending ∧
    t.fault = u.fault ∧ t.params = u.params

/-- The flags of P by bit number (10_state.md R23). -/
def carry (p : Byte) : Bool := p.getLsbD 0
def zero (p : Byte) : Bool := p.getLsbD 1
def interruptDisable (p : Byte) : Bool := p.getLsbD 2
def overflow (p : Byte) : Bool := p.getLsbD 6
def negative (p : Byte) : Bool := p.getLsbD 7

/-- Every bit of P but those listed is unchanged. -/
def OnlyFlags (ks : List Nat) (p q : Byte) : Prop := ∀ k, k ∉ ks → q.getLsbD k = p.getLsbD k

/-- Z and N follow the byte `v`, the rest of P is unchanged (`SetZN`, 00_scope.md R7). -/
def FollowsByte (v p q : Byte) : Prop :=
  zero q = decide (v.toNat = 0) ∧ negative q = decide (128 ≤ v.toNat) ∧ OnlyFlags [1, 7] p q

/-- C, Z and N report the comparison of `r` with `m`, the rest of P is unchanged (41_arithmetic.md R162). -/
def ReportsCompare (r m p q : Byte) : Prop :=
  carry q = decide (m.toNat ≤ r.toNat) ∧ zero q = decide (r.toNat = m.toNat) ∧
    negative q = decide (128 ≤ (r.toNat + 256 - m.toNat) % 256) ∧ OnlyFlags [0, 1, 7] p q

/-- C, V, Z and N report a sum whose unsigned value is `u` and whose signed value is `z` (R162). -/
def ReportsSum (u z : Int) (a p q : Byte) : Prop :=
  (a.toNat : Int) = u % 256 ∧ carry q = decide (256 ≤ u) ∧ overflow q = decide (z < -128 ∨ 127 < z) ∧
    zero q = decide (a.toNat = 0) ∧ negative q = decide (128 ≤ a.toNat) ∧ OnlyFlags [0, 1, 6, 7] p q

/-- The instruction's own part of a read form that writes A. -/
def WritesA (s : State) (r : Source) (v : Byte) (t : State) : Prop :=
  Regs t v s.x s.y s.sp ∧ FollowsByte v s.p t.p ∧ Ends s t r.length r.cycles ∧ SameDevices r.after t

/-- What a read form that writes only P leaves. -/
def LeavesRegs (s : State) (r : Source) (t : State) : Prop :=
  Regs t s.a s.x s.y s.sp ∧ Ends s t r.length r.cycles ∧ SameDevices r.after t

/-- A one-byte instruction without bus access ends. -/
def EndsImplied (s t : State) (cyc : Nat) : Prop := Ends s t 1 cyc ∧ SameDevices s t

/-- The register a store stores (40_load_store_transfer.md R134 to R136). -/
def stored (m : Mnemonic) (s : State) : Option Byte :=
  match m with
  | .sta => some s.a
  | .stx => some s.x
  | .sty => some s.y
  | _ => none

/-- The result of a read-modify-write operation on byte `m` with carry `c`, and the carry it leaves if it writes C
(41_arithmetic.md R156, R159; 42_logical_shift.md R175 to R178). -/
def modified (mn : Mnemonic) (m : Byte) (c : Bool) : Option (Byte × Option Bool) :=
  match mn with
  | .inc => some (BitVec.ofNat 8 (m.toNat + 1), none)
  | .dec => some (BitVec.ofNat 8 (m.toNat + 255), none)
  | .asl => some (BitVec.ofNat 8 (2 * m.toNat), some (decide (128 ≤ m.toNat)))
  | .lsr => some (BitVec.ofNat 8 (m.toNat / 2), some (decide (m.toNat % 2 = 1)))
  | .rol => some (BitVec.ofNat 8 (2 * m.toNat + c.toNat), some (decide (128 ≤ m.toNat)))
  | .ror => some (BitVec.ofNat 8 (m.toNat / 2 + 128 * c.toNat), some (decide (m.toNat % 2 = 1)))
  | _ => none

/-- P after such an operation with result `v`: Z and N, and C where it writes C. -/
def FollowsModify (v : Byte) (co : Option Bool) (p q : Byte) : Prop :=
  zero q = decide (v.toNat = 0) ∧ negative q = decide (128 ≤ v.toNat) ∧
    match co with
    | none => OnlyFlags [1, 7] p q
    | some c => carry q = c ∧ OnlyFlags [0, 1, 7] p q

/-- When a branch is taken (43_branches.md R191 to R198). -/
def taken (m : Mnemonic) (p : Byte) : Option Bool :=
  match m with
  | .bcc => some (!carry p)
  | .bcs => some (carry p)
  | .bne => some (!zero p)
  | .beq => some (zero p)
  | .bpl => some (!negative p)
  | .bmi => some (negative p)
  | .bvc => some (!overflow p)
  | .bvs => some (overflow p)
  | _ => none

/-- The flag a flag instruction writes, by bit number, and its value (45_stack_flags_nop.md R225 to R231). -/
def flagWrite (m : Mnemonic) : Option (Nat × Bool) :=
  match m with
  | .clc => some (0, false)
  | .sec => some (0, true)
  | .cli => some (2, false)
  | .sei => some (2, true)
  | .cld => some (3, false)
  | .sed => some (3, true)
  | .clv => some (6, false)
  | _ => none

/-- The mnemonics that may change each bit of P (10_state.md R24). -/
def flagWriters (k : Nat) : List Mnemonic :=
  match k with
  | 0 => [.adc, .sbc, .cmp, .cpx, .cpy, .asl, .lsr, .rol, .ror, .clc, .sec, .plp, .rti]
  | 1 => [.lda, .ldx, .ldy, .tax, .tay, .txa, .tya, .tsx, .pla, .adc, .sbc, .cmp, .cpx, .cpy, .inc, .inx, .iny, .dec,
          .dex, .dey, .and, .ora, .eor, .bit, .asl, .lsr, .rol, .ror, .plp, .rti]
  | 2 => [.sei, .cli, .plp, .rti, .brk]
  | 3 => [.sed, .cld, .plp, .rti]
  | 6 => [.adc, .sbc, .bit, .clv, .plp, .rti]
  | 7 => flagWriters 1
  | _ => []

/-! Memory -/

/-- A work-RAM or program-ROM address: the addresses that are memory and no device (20_memory.md R79). -/
abbrev InMemory (a : Word) : Prop := a.toNat < 0x2000 ∨ 0x8000 ≤ a.toNat

/-- The stack cell `k` bytes below the one S names, wrapping in page 1 (10_state.md R22). -/
def below (sp : Byte) (k : Nat) : Nat := 256 + (sp.toNat + 256 - k) % 256

/-- The stack cell `k` bytes above the one S names, wrapping in page 1. -/
def above (sp : Byte) (k : Nat) : Nat := 256 + (sp.toNat + k) % 256

/-- Work RAM changed at most in the cells listed. -/
def RamExcept (cells : List Nat) (s t : State) : Prop := ∀ k, k ∉ cells → t.ram.read k = s.ram.read k

/-- An instruction that stores to memory or pushes. -/
def stores (i : Instr) : Bool :=
  match i.mnemonic with
  | .sta | .stx | .sty | .pha | .php | .jsr | .brk => true
  | .inc | .dec => true
  | .asl | .lsr | .rol | .ror => i.operand != .acc
  | _ => false

/-- `n` ordinary bus reads at ascending addresses: the bytes, and the state after their side effects. -/
def readBytes : Nat → Word → State → List Byte × State
  | 0, _, s => ([], s)
  | n + 1, a, s =>
    ((busRead a s).1 :: (readBytes n (a + 1) (busRead a s).2).1, (readBytes n (a + 1) (busRead a s).2).2)

/-- The 105 illegal opcodes, row by row as R119 lists them. -/
def illegalOpcodes : List Byte :=
  [0x02, 0x03, 0x04, 0x07, 0x0B, 0x0C, 0x0F, 0x12, 0x13, 0x14, 0x17, 0x1A, 0x1B, 0x1C, 0x1F, 0x22]
  ++ [0x23, 0x27, 0x2B, 0x2F, 0x32, 0x33, 0x34, 0x37, 0x3A, 0x3B, 0x3C, 0x3F, 0x42, 0x43, 0x44, 0x47]
  ++ [0x4B, 0x4F, 0x52, 0x53, 0x54, 0x57, 0x5A, 0x5B, 0x5C, 0x5F, 0x62, 0x63, 0x64, 0x67, 0x6B, 0x6F]
  ++ [0x72, 0x73, 0x74, 0x77, 0x7A, 0x7B, 0x7C, 0x7F, 0x80, 0x82, 0x83, 0x87, 0x89, 0x8B, 0x8F, 0x92]
  ++ [0x93, 0x97, 0x9B, 0x9C, 0x9E, 0x9F, 0xA3, 0xA7, 0xAB, 0xAF, 0xB2, 0xB3, 0xB7, 0xBB, 0xBF, 0xC2]
  ++ [0xC3, 0xC7, 0xCB, 0xCF, 0xD2, 0xD3, 0xD4, 0xD7, 0xDA, 0xDB, 0xDC, 0xDF, 0xE2, 0xE3, 0xE7, 0xEB]
  ++ [0xEF, 0xF2, 0xF3, 0xF4, 0xF7, 0xFA, 0xFB, 0xFC, 0xFF]

/-! The PPU -/

/-- Nametable cell of a PPU address (20_memory.md R77). -/
def ntCell (m : Mirroring) (a : Nat) : Nat :=
  match m with
  | .vertical => a % 2048
  | .horizontal => a / 2048 % 2 * 1024 + a % 1024
  | .fourScreen => a % 4096

/-- Palette cell of a PPU address (R78). -/
def palCell (a : Nat) : Nat := if a % 4 = 0 then a % 16 else a % 32

/-- The byte at PPU address `a` (R74). -/
def ppuByte (c : Cartridge) (p : Ppu) (a : Nat) : Byte :=
  if a < 0x2000 then c.chr.read a
  else if a < 0x3F00 then p.ntRam.read (ntCell c.mirroring a)
  else BitVec.ofNat 8 (p.pal.read (palCell a)).toNat

/-- The PPU address register taken apart (10_state.md R35). -/
structure Scroll where
  coarseX : Nat
  coarseY : Nat
  ntX : Nat
  ntY : Nat
  fineY : Nat
deriving DecidableEq, Repr

/-- The fields of a 15-bit address register. -/
def scroll (v : BitVec 15) : Scroll :=
  { coarseX := v.toNat % 32, coarseY := v.toNat / 32 % 32, ntX := v.toNat / 1024 % 2, ntY := v.toNat / 2048 % 2,
    fineY := v.toNat / 4096 }

/-- `IncCoarseX` (47_ppu_pipeline.md R282). -/
def Scroll.nextTile (q : Scroll) : Scroll :=
  if q.coarseX = 31 then { q with coarseX := 0, ntX := 1 - q.ntX } else { q with coarseX := q.coarseX + 1 }

/-- `IncY` (R283). -/
def Scroll.nextRow (q : Scroll) : Scroll :=
  if q.fineY < 7 then { q with fineY := q.fineY + 1 }
  else if q.coarseY = 29 then { q with fineY := 0, coarseY := 0, ntY := 1 - q.ntY }
  else if q.coarseY = 31 then { q with fineY := 0, coarseY := 0 }
  else { q with fineY := 0, coarseY := q.coarseY + 1 }

/-- The dots that fetch (R278). -/
abbrev fetches (d : Nat) : Prop := (1 ≤ d ∧ d ≤ 256) ∨ (321 ≤ d ∧ d ≤ 336)

/-- The dots that shift (R278). -/
abbrev shifts (d : Nat) : Prop := (2 ≤ d ∧ d ≤ 257) ∨ (322 ≤ d ∧ d ≤ 337)

/-- The dots that reload (R278). -/
abbrev reloads (d : Nat) : Prop := (9 ≤ d ∧ d ≤ 257 ∧ d % 8 = 1) ∨ d = 329 ∨ d = 337

/-- The background pipeline runs: rendering is on and the line is a render line (R271). -/
abbrev pipelineOn (p : Ppu) : Prop :=
  (p.mask.getLsbD 3 = true ∨ p.mask.getLsbD 4 = true) ∧ (p.scanline < 240 ∨ p.scanline = 261)

/-- What the background pipeline does to `v` at dot `d` of line `s`, with `t`'s fields `w` (R278, R282 to R285). -/
def Scroll.atDot (s d : Nat) (w q : Scroll) : Scroll :=
  let q1 := if fetches d ∧ d % 8 = 0 then q.nextTile else q
  let q2 := if d = 256 then q1.nextRow else q1
  let q3 := if d = 257 then { q2 with coarseX := w.coarseX, ntX := w.ntX } else q2
  if s = 261 ∧ 280 ≤ d ∧ d ≤ 304 then { q3 with coarseY := w.coarseY, ntY := w.ntY, fineY := w.fineY } else q3

/-- A background shifter after a dot: shifted, then its low byte reloaded (R286). -/
def shifterAtDot (d : Nat) (x : BitVec 16) (reload : Nat) : Nat :=
  let y := if shifts d then 2 * x.toNat % 65536 else x.toNat
  if reloads d then y / 256 * 256 + reload else y

/-- Sprite height (R289). -/
def height (p : Ppu) : Nat := if p.ctrl.getLsbD 5 then 16 else 8

/-- The sprite byte `y` puts scanline `s` in its range (R289). -/
def covers (p : Ppu) (s : Nat) (y : Byte) : Bool := decide (y.toNat ≤ s ∧ s < y.toNat + height p)

/-- The OAM entries in range of scanline `s`, in OAM order (R289). -/
def inRangeEntries (p : Ppu) (s : Nat) : List Nat := (List.range 64).filter fun n => covers p s (p.oam.read (4 * n))

/-- The background's 2-bit pixel at column `x` (R287). -/
def bgPx (p : Ppu) (x : Nat) : Nat :=
  if p.mask.getLsbD 3 ∧ (8 ≤ x ∨ p.mask.getLsbD 1) then
    2 * (p.bgShHi.getLsbD (15 - p.x.toNat)).toNat + (p.bgShLo.getLsbD (15 - p.x.toNat)).toNat
  else 0

/-- The background's palette number at any column it shows in (R287). -/
def bgPal (p : Ppu) : Nat :=
  2 * (p.atShHi.getLsbD (15 - p.x.toNat)).toNat + (p.atShLo.getLsbD (15 - p.x.toNat)).toNat

/-- The 2-bit pixel of sprite `i` at column `x`, 0 outside its eight columns (R292). -/
def sprPx (p : Ppu) (x i : Nat) : Nat :=
  if (p.sprX.read i).toNat ≤ x ∧ x ≤ (p.sprX.read i).toNat + 7 then
    2 * ((p.sprHi.read i).getLsbD (7 - (x - (p.sprX.read i).toNat))).toNat
      + ((p.sprLo.read i).getLsbD (7 - (x - (p.sprX.read i).toNat))).toNat
  else 0

/-- The sprite that wins column `x`: the first with an opaque pixel (R292). -/
def winner (p : Ppu) (x : Nat) : Option Nat :=
  if p.mask.getLsbD 4 ∧ (8 ≤ x ∨ p.mask.getLsbD 2) then
    (List.range p.secCount).find? fun i => decide (sprPx p x i ≠ 0)
  else none

/-- The palette cell the compositor chooses at column `x` (R296). -/
def chosenCell (p : Ppu) (x : Nat) : Nat :=
  match winner p x with
  | none => if bgPx p x = 0 then 0 else 4 * bgPal p + bgPx p x
  | some i =>
    if bgPx p x = 0 ∨ (p.sprAttr.read i).getLsbD 5 = false then 16 + 4 * ((p.sprAttr.read i).toNat % 4) + sprPx p x i
    else 4 * bgPal p + bgPx p x

/-- The frame-buffer cell `WritePixel` writes for a palette cell (R298). -/
def cellValue (p : Ppu) (k : Nat) : Nat :=
  64 * (p.mask.toNat / 32)
    + (if p.mask.getLsbD 0 then (p.pal.read k).toNat / 16 * 16 else (p.pal.read k).toNat)

/-! Joypad -/

/-- Joypad reads, the host setting the buttons to each mask in turn before each read (48_joypad.md R315). -/
def joySeries (q : Params) : List Byte → Joypad → List Byte
  | [], _ => []
  | m :: ms, j =>
    (Joypad.read q { j with buttons := m }).1 :: joySeries q ms (Joypad.read q { j with buttons := m }).2

end Sys2Proof.Spec

open Sys2Proof Sys2Proof.Machine Sys2Proof.Spec

/-! Encoding -/

/-- R100, R101, R116, R117: decoding what an instruction encodes to gives it back, and the bytes that follow. -/
def Obligations.DecodingAnEncodedInstructionGivesItBack : Prop :=
  ∀ (i : Instr) (rest : List Byte), decode (encode i ++ rest) = .ok (i, rest)

/-- The other direction: the bytes an instruction was decoded from are its encoding, so no bit of them is dropped. -/
def Obligations.EncodingADecodedInstructionGivesItsBytes : Prop :=
  ∀ (bs : List Byte) (i : Instr) (rest : List Byte), decode bs = .ok (i, rest) → encode i ++ rest = bs

/-- R118, R119: the decoder refuses exactly the 105 listed opcode bytes, by name. -/
def Obligations.DecoderRefusesExactlyTheIllegalOpcodes : Prop :=
  illegalOpcodes.length = 105 ∧
  ∀ (op : Byte) (rest : List Byte), decode (op :: rest) = .error (.illegalOpcode op) ↔ op ∈ illegalOpcodes

/-- A few words written out from R125 and the rules' examples decode to what they stand for. -/
def Obligations.SampleWordsDecode : Prop :=
  decodeTableWord 16 0x80A9 = some (.ldaImm 0x80) ∧ decodeTableWord 24 0x2002AD = some (.ldaAbs 0x2002) ∧
  decodeTableWord 16 0x10B6 = some (.ldxZpy 0x10) ∧ decodeTableWord 16 0x10B1 = some (.ldaIzy 0x10) ∧
  decodeTableWord 24 0xFFFC6C = some (.jmpInd 0xFFFC) ∧ decodeTableWord 16 0xFBD0 = some (.bne 0xFB) ∧
  decodeTableWord 8 0x0A = some .aslAcc ∧ decodeTableWord 16 0x5069 = some (.adcImm 0x50) ∧
  decodeTableWord 24 0x801020 = some (.jsr 0x8010) ∧ decodeTableWord 8 0x08 = some .php ∧
  decodeTableWord 8 0x00 = some .brk ∧ decodeTableWord 8 0x02 = none

/-- R117: a mnemonic and an operand are an instruction exactly where the mnemonic's row lists the operand's mode, and then
they are one instruction. -/
def Obligations.LegalLinesNameOneInstruction : Prop :=
  ∀ l : Line, (l.wf = true ↔ ∃ i : Instr, i.line = l) ∧ ∀ i j : Instr, i.line = l → j.line = l → i = j

/-! The step -/

/-- R101, R326, R327: where the bytes at PC are memory and decode to an instruction, with no fault latched and no NMI
pending, the step is that instruction and then the end of the step. -/
def Obligations.StepRunsTheDecodedInstruction : Prop :=
  ∀ (s : State) (i : Instr) (rest : List Byte), s.fault = none → s.nmiPending = false →
    decode [peek s.pc s, peek (s.pc + 1) s, peek (s.pc + 2) s] = .ok (i, rest) →
    (∀ k, k < i.length → InMemory (s.pc + BitVec.ofNat 16 k)) →
    ∃ t, exec i s = .next t ∧ step s = .next (endStep t)

/-- R83, R101: the bytes are fetched through the bus, wherever PC points, in ascending order and only as many as the
instruction has; the instruction runs on the state their side effects leave. -/
def Obligations.StepFetchesThroughTheBus : Prop :=
  ∀ (s : State) (i : Instr), s.fault = none → s.nmiPending = false →
    decode (readBytes i.length s.pc s).1 = .ok (i, []) →
    ∃ t, exec i (readBytes i.length s.pc s).2 = .next t ∧ step s = .next (endStep t)

/-- R326, R328, R330: after the CPU's part come three dots for each cycle, both counters, and the hand-over; nothing else
changes. -/
def Obligations.EndOfStepRunsThreeDotsACycleThenHandsOver : Prop :=
  (∀ s u, step s = .next u → ∃ t, cpuStep s = .next t ∧ u = endStep t) ∧
  ∀ t : State,
    endStep t = { t with
      ppu := { Ppu.ticks t.cart (3 * t.cyc) t.ppu with nmiOut := false }
      nmiPending := t.nmiPending || (Ppu.ticks t.cart (3 * t.cyc) t.ppu).nmiOut
      clk := { cpuCycles := t.clk.cpuCycles + t.cyc, ppuDots := t.clk.ppuDots + 3 * t.cyc } }

/-- R346: with an NMI pending the step is the entry sequence; nothing at PC is fetched. -/
def Obligations.PendingNmiIsEnteredBeforeTheFetch : Prop :=
  ∀ s : State, s.fault = none → s.nmiPending = true → s.ram.wf 2048 = true →
    ∃ t, step s = .next (endStep t) ∧
      t.ram.read (below s.sp 0) = hiByte s.pc ∧ t.ram.read (below s.sp 1) = loByte s.pc ∧
      t.ram.read (below s.sp 2) = (s.p &&& 0xCF) ||| 0x20 ∧
      RamExcept [below s.sp 0, below s.sp 1, below s.sp 2] s t ∧
      interruptDisable t.p = true ∧ OnlyFlags [2] s.p t.p ∧
      t.pc = word (peek 0xFFFA s) (peek 0xFFFB s) ∧ t.cyc = 7 ∧ Regs t s.a s.x s.y (s.sp - 3) ∧
      t.nmiPending = false ∧ t.cart = s.cart ∧ t.ppu = s.ppu ∧ t.joy = s.joy ∧ t.clk = s.clk ∧ t.fault = none ∧
      t.params = s.params

/-- R118, R340, R345: an illegal byte at PC halts the machine: only the fetch's own side effect and the latch; then
nothing runs. Two clauses are the model's choice. That the halted state keeps the fetch's read side effect is log entry 5
(DEDUCED: R118 and R340 say so, R335 says "exactly the state before"). That `step` answers a halt, and every step from a
latched fault, with `.fault` is log entry 1 (DESIGN CHOICE). -/
def Obligations.IllegalOpcodeHaltsTheMachine : Prop :=
  (∀ s : State, s.fault = none → s.nmiPending = false → (busRead s.pc s).1 ∈ illegalOpcodes →
    step s = .fault (.illegalOpcode s.pc (busRead s.pc s).1) ∧
    driverStep s = { (busRead s.pc s).2 with fault := some (.illegalOpcode s.pc (busRead s.pc s).1) }) ∧
  ∀ (s : State) (f : Fault), s.fault = some f → step s = .fault f ∧ driverStep s = s

/-- R342, R345: a step completes exactly where no fault is latched and an NMI is pending or the byte at PC is legal; it
is never refused. -/
def Obligations.StepCompletesUnlessAFaultStopsIt : Prop :=
  ∀ s : State, ((∃ t, step s = .next t) ↔
      s.fault = none ∧ (s.nmiPending = true ∨ (busRead s.pc s).1 ∉ illegalOpcodes)) ∧
    ∀ r, step s ≠ .refused r

/-! Loads, stores, transfers -/

/-- R131 to R133: LDA, LDX, LDY in every form. -/
def Obligations.LoadsWriteTheRegisterAndSetZN : Prop :=
  ∀ (i : Instr) (s : State) (r : Source), source s i.operand = some r →
    (i.mnemonic = .lda → ∃ t, exec i s = .next t ∧ WritesA s r r.byte t) ∧
    (i.mnemonic = .ldx → ∃ t, exec i s = .next t ∧ Regs t s.a r.byte s.y s.sp ∧ FollowsByte r.byte s.p t.p ∧
      Ends s t r.length r.cycles ∧ SameDevices r.after t) ∧
    (i.mnemonic = .ldy → ∃ t, exec i s = .next t ∧ Regs t s.a s.x r.byte s.sp ∧ FollowsByte r.byte s.p t.p ∧
      Ends s t r.length r.cycles ∧ SameDevices r.after t)

/-- R137 to R142: the six transfers; TXS leaves P unchanged. -/
def Obligations.TransfersCopyOneRegister : Prop :=
  ∀ s : State,
    (∃ t, exec .tax s = .next t ∧ Regs t s.a s.a s.y s.sp ∧ FollowsByte s.a s.p t.p ∧ EndsImplied s t 2) ∧
    (∃ t, exec .tay s = .next t ∧ Regs t s.a s.x s.a s.sp ∧ FollowsByte s.a s.p t.p ∧ EndsImplied s t 2) ∧
    (∃ t, exec .txa s = .next t ∧ Regs t s.x s.x s.y s.sp ∧ FollowsByte s.x s.p t.p ∧ EndsImplied s t 2) ∧
    (∃ t, exec .tya s = .next t ∧ Regs t s.y s.x s.y s.sp ∧ FollowsByte s.y s.p t.p ∧ EndsImplied s t 2) ∧
    (∃ t, exec .tsx s = .next t ∧ Regs t s.a s.sp s.y s.sp ∧ FollowsByte s.sp s.p t.p ∧ EndsImplied s t 2) ∧
    (∃ t, exec .txs s = .next t ∧ Regs t s.a s.x s.y s.x ∧ t.p = s.p ∧ EndsImplied s t 2)

/-- R134 to R136: a store is one bus write of the register at the addressed byte; no register or flag changes. -/
def Obligations.StoresWriteTheBusAndChangeNoFlag : Prop :=
  ∀ (i : Instr) (s : State) (o : MemOperand) (v : Byte), dataOperand i.operand = some o →
    stored i.mnemonic s = some v →
    ∃ t, exec i s = .next t ∧ Regs t s.a s.x s.y s.sp ∧ t.p = s.p ∧
      Ends s t (size o) (storeCost o + dmaCost (address s o)) ∧ SameDevices (busWrite (busAddress s o) v s) t

/-- R62, R68, R134 to R136, R156, R159, R170: what stores and read-modify-write forms leave of memory. A store to work RAM
changes that cell and its mirrors only, as every address read before shows; a store elsewhere changes no memory byte. -/
def Obligations.StoresChangeOnlyTheAddressedByte : Prop :=
  ∀ (i : Instr) (s t : State) (o : MemOperand) (v : Byte), s.ram.wf 2048 = true → dataOperand i.operand = some o →
    (stored i.mnemonic s = some v ∨
      ∃ co, modified i.mnemonic (busRead (busAddress s o) s).1 (carry s.p) = some (v, co)) →
    exec i s = .next t →
    (address s o < 0x2000 → ∀ a : Word,
      peek a t = if a.toNat < 0x2000 ∧ a.toNat % 2048 = address s o % 2048 then v else peek a s) ∧
    (0x2000 ≤ address s o → ∀ a : Word, InMemory a → peek a t = peek a s)

/-! Arithmetic, logic, shifts -/

/-- R151, R152, R162: ADC and SBC in every form, by the integer laws; the decimal flag plays no part. -/
def Obligations.AdcAndSbcObeyTheIntegerLaws : Prop :=
  ∀ (i : Instr) (s : State) (r : Source), source s i.operand = some r →
    (i.mnemonic = .adc → ∃ t, exec i s = .next t ∧ Regs t t.a s.x s.y s.sp ∧
      ReportsSum (s.a.toNat + r.byte.toNat + (carry s.p).toNat) (s.a.toInt + r.byte.toInt + (carry s.p).toNat)
        t.a s.p t.p ∧ Ends s t r.length r.cycles ∧ SameDevices r.after t) ∧
    (i.mnemonic = .sbc → ∃ t, exec i s = .next t ∧ Regs t t.a s.x s.y s.sp ∧
      ReportsSum (s.a.toNat - r.byte.toNat - (1 - (carry s.p).toNat) + 256)
        (s.a.toInt - r.byte.toInt - (1 - (carry s.p).toNat)) t.a s.p t.p ∧
      Ends s t r.length r.cycles ∧ SameDevices r.after t)

/-- R153 to R155: CMP, CPX, CPY in every form change C, Z and N only. -/
def Obligations.ComparesReportTheUnsignedOrder : Prop :=
  ∀ (i : Instr) (s : State) (r : Source), source s i.operand = some r →
    (i.mnemonic = .cmp → ∃ t, exec i s = .next t ∧ ReportsCompare s.a r.byte s.p t.p ∧ LeavesRegs s r t) ∧
    (i.mnemonic = .cpx → ∃ t, exec i s = .next t ∧ ReportsCompare s.x r.byte s.p t.p ∧ LeavesRegs s r t) ∧
    (i.mnemonic = .cpy → ∃ t, exec i s = .next t ∧ ReportsCompare s.y r.byte s.p t.p ∧ LeavesRegs s r t)

/-- R73, R156, R159, R170, R175 to R178: INC, DEC and the memory forms of the shifts make one read, then one write of the
same address. -/
def Obligations.ModifyFormsReadThenWriteTheSameAddress : Prop :=
  ∀ (i : Instr) (s : State) (o : MemOperand) (v : Byte) (co : Option Bool), dataOperand i.operand = some o →
    modified i.mnemonic (busRead (busAddress s o) s).1 (carry s.p) = some (v, co) →
    ∃ t, exec i s = .next t ∧ Regs t s.a s.x s.y s.sp ∧ FollowsModify v co s.p t.p ∧
      Ends s t (size o) (modifyCost o + dmaCost (address s o)) ∧
      SameDevices (busWrite (busAddress s o) v (busRead (busAddress s o) s).2) t

/-- R104, R170, R175 to R178: the accumulator forms of the shifts. -/
def Obligations.AccumulatorShiftsWriteA : Prop :=
  ∀ (i : Instr) (s : State) (v : Byte) (co : Option Bool), i.operand = .acc →
    modified i.mnemonic s.a (carry s.p) = some (v, co) →
    ∃ t, exec i s = .next t ∧ Regs t v s.x s.y s.sp ∧ FollowsModify v co s.p t.p ∧ EndsImplied s t 2

/-- R157, R158, R160, R161: the index register steps wrap modulo 256 and touch Z and N only. -/
def Obligations.IndexStepsWrapAndSetZN : Prop :=
  ∀ s : State,
    (∃ t, exec .inx s = .next t ∧ t.x.toNat = (s.x.toNat + 1) % 256 ∧ Regs t s.a t.x s.y s.sp ∧
      FollowsByte t.x s.p t.p ∧ EndsImplied s t 2) ∧
    (∃ t, exec .iny s = .next t ∧ t.y.toNat = (s.y.toNat + 1) % 256 ∧ Regs t s.a s.x t.y s.sp ∧
      FollowsByte t.y s.p t.p ∧ EndsImplied s t 2) ∧
    (∃ t, exec .dex s = .next t ∧ t.x.toNat = (s.x.toNat + 255) % 256 ∧ Regs t s.a t.x s.y s.sp ∧
      FollowsByte t.x s.p t.p ∧ EndsImplied s t 2) ∧
    (∃ t, exec .dey s = .next t ∧ t.y.toNat = (s.y.toNat + 255) % 256 ∧ Regs t s.a s.x t.y s.sp ∧
      FollowsByte t.y s.p t.p ∧ EndsImplied s t 2)

/-- R171 to R173: AND, ORA, EOR in every form, bit by bit. -/
def Obligations.LogicWorksBitByBit : Prop :=
  ∀ (i : Instr) (s : State) (r : Source), source s i.operand = some r →
    (i.mnemonic = .and → ∃ t, exec i s = .next t ∧
      (∀ k, t.a.getLsbD k = (s.a.getLsbD k && r.byte.getLsbD k)) ∧ WritesA s r t.a t) ∧
    (i.mnemonic = .ora → ∃ t, exec i s = .next t ∧
      (∀ k, t.a.getLsbD k = (s.a.getLsbD k || r.byte.getLsbD k)) ∧ WritesA s r t.a t) ∧
    (i.mnemonic = .eor → ∃ t, exec i s = .next t ∧
      (∀ k, t.a.getLsbD k = (s.a.getLsbD k != r.byte.getLsbD k)) ∧ WritesA s r t.a t)

/-- R174: BIT takes N and V from the memory byte and Z from the and; A is unchanged. -/
def Obligations.BitTestsTheMemoryByte : Prop :=
  ∀ (i : Instr) (s : State) (r : Source), source s i.operand = some r → i.mnemonic = .bit →
    ∃ t, exec i s = .next t ∧ (zero t.p = true ↔ ∀ k, (s.a.getLsbD k && r.byte.getLsbD k) = false) ∧
      negative t.p = r.byte.getLsbD 7 ∧ overflow t.p = r.byte.getLsbD 6 ∧ OnlyFlags [1, 6, 7] s.p t.p ∧
      LeavesRegs s r t

/-! Branches, jumps, calls -/

/-- R115, R124, R190 to R198: the eight branches, taken and not taken. -/
def Obligations.BranchesFollowTheirFlag : Prop :=
  ∀ (i : Instr) (s : State) (off : Byte) (c : Bool), i.operand = .rel off → taken i.mnemonic s.p = some c →
    let next := (s.pc.toNat + 2) % 65536
    let target := (((s.pc.toNat : Int) + 2 + off.toInt) % 65536).toNat
    ∃ t, exec i s = .next t ∧ t.pc.toNat = (if c then target else next) ∧
      t.cyc = (if c then (if target / 256 = next / 256 then 3 else 4) else 2) ∧
      Regs t s.a s.x s.y s.sp ∧ t.p = s.p ∧ SameDevices s t

/-- R112, R211, R212: JMP; the indirect form's pointer wraps inside its page, and its two reads are ordinary. -/
def Obligations.JumpsSetThePc : Prop :=
  ∀ (w : Word) (s : State),
    (∃ t, exec (.jmpAbs w) s = .next t ∧ t.pc = w ∧ t.cyc = 3 ∧ Regs t s.a s.x s.y s.sp ∧ t.p = s.p ∧
      SameDevices s t) ∧
    let lo := busRead w s
    let hi := busRead (BitVec.ofNat 16 (w.toNat / 256 * 256 + (w.toNat + 1) % 256)) lo.2
    ∃ t, exec (.jmpInd w) s = .next t ∧ t.pc = word lo.1 hi.1 ∧ t.cyc = 5 ∧ Regs t s.a s.x s.y s.sp ∧ t.p = s.p ∧
      SameDevices hi.2 t

/-- R213: JSR saves the address of its own last byte, high byte first, and goes to the target. -/
def Obligations.JsrSavesTheAddressOfItsLastByte : Prop :=
  ∀ (w : Word) (s : State), s.ram.wf 2048 = true →
    ∃ t, exec (.jsr w) s = .next t ∧
      256 * (t.ram.read (below s.sp 0)).toNat + (t.ram.read (below s.sp 1)).toNat = (s.pc.toNat + 2) % 65536 ∧
      RamExcept [below s.sp 0, below s.sp 1] s t ∧ t.pc = w ∧ t.cyc = 6 ∧ Regs t s.a s.x s.y (s.sp - 2) ∧
      t.p = s.p ∧ SameButRam s t

/-- R214: RTS pulls an address, low byte first, and adds 1. -/
def Obligations.RtsReturnsPastThePulledAddress : Prop :=
  ∀ s : State, ∃ t, exec .rts s = .next t ∧
    t.pc.toNat = ((s.ram.read (above s.sp 1)).toNat + 256 * (s.ram.read (above s.sp 2)).toNat + 1) % 65536 ∧
    t.cyc = 6 ∧ Regs t s.a s.x s.y (s.sp + 2) ∧ t.p = s.p ∧ SameDevices s t

/-- R215: BRK saves PC + 2 and P with B and U set, sets I, and takes the vector at 0xFFFE. -/
def Obligations.BrkEntersItsHandler : Prop :=
  ∀ s : State, s.ram.wf 2048 = true →
    ∃ t, exec .brk s = .next t ∧
      256 * (t.ram.read (below s.sp 0)).toNat + (t.ram.read (below s.sp 1)).toNat = (s.pc.toNat + 2) % 65536 ∧
      t.ram.read (below s.sp 2) = s.p ||| 0x30 ∧
      RamExcept [below s.sp 0, below s.sp 1, below s.sp 2] s t ∧
      interruptDisable t.p = true ∧ OnlyFlags [2] s.p t.p ∧
      t.pc = word (peek 0xFFFE s) (peek 0xFFFF s) ∧ t.cyc = 7 ∧ Regs t s.a s.x s.y (s.sp - 3) ∧ SameButRam s t

/-- R216: RTI pulls P, ignoring bits 5:4, then the address, adding nothing. -/
def Obligations.RtiRestoresStatusAndPc : Prop :=
  ∀ s : State, ∃ t, exec .rti s = .next t ∧
    (∀ k, k ≠ 4 → k ≠ 5 → t.p.getLsbD k = (s.ram.read (above s.sp 1)).getLsbD k) ∧
    t.p.getLsbD 4 = false ∧ t.p.getLsbD 5 = true ∧
    t.pc.toNat = (s.ram.read (above s.sp 2)).toNat + 256 * (s.ram.read (above s.sp 3)).toNat ∧
    t.cyc = 6 ∧ Regs t s.a s.x s.y (s.sp + 3) ∧ SameDevices s t

/-- R214, R216, R348, R349: a return undoes its entry. RTS resumes after the JSR, RTI exactly where the NMI came or past
BRK's padding byte, with P as it was. -/
def Obligations.ReturnsUndoTheirEntries : Prop :=
  ∀ s : State, s.ram.wf 2048 = true → statusOk s.p = true →
    (∀ w t, exec (.jsr w) s = .next t →
      ∃ u, exec .rts t = .next u ∧ u.pc.toNat = (s.pc.toNat + 3) % 65536 ∧ u.sp = s.sp ∧ u.p = s.p) ∧
    (∀ t, exec .brk s = .next t →
      ∃ u, exec .rti t = .next u ∧ u.pc.toNat = (s.pc.toNat + 2) % 65536 ∧ u.sp = s.sp ∧ u.p = s.p) ∧
    (∃ u, exec .rti (nmiEntry s) = .next u ∧ u.pc = s.pc ∧ u.sp = s.sp ∧ u.p = s.p)

/-! Stack, flags, NOP -/

/-- R221 to R224: the four stack instructions. -/
def Obligations.StackInstructionsMoveOneByte : Prop :=
  ∀ s : State, s.ram.wf 2048 = true →
    (∃ t, exec .pha s = .next t ∧ t.ram.read (below s.sp 0) = s.a ∧ RamExcept [below s.sp 0] s t ∧
      Regs t s.a s.x s.y (s.sp - 1) ∧ t.p = s.p ∧ Ends s t 1 3 ∧ SameButRam s t) ∧
    (∃ t, exec .php s = .next t ∧ t.ram.read (below s.sp 0) = s.p ||| 0x30 ∧ RamExcept [below s.sp 0] s t ∧
      Regs t s.a s.x s.y (s.sp - 1) ∧ t.p = s.p ∧ Ends s t 1 3 ∧ SameButRam s t) ∧
    (∃ t, exec .pla s = .next t ∧ Regs t (s.ram.read (above s.sp 1)) s.x s.y (s.sp + 1) ∧
      FollowsByte (s.ram.read (above s.sp 1)) s.p t.p ∧ EndsImplied s t 4) ∧
    (∃ t, exec .plp s = .next t ∧ Regs t s.a s.x s.y (s.sp + 1) ∧
      (∀ k, k ≠ 4 → k ≠ 5 → t.p.getLsbD k = (s.ram.read (above s.sp 1)).getLsbD k) ∧
      t.p.getLsbD 4 = false ∧ t.p.getLsbD 5 = true ∧ EndsImplied s t 4)

/-- R225 to R232: a flag instruction writes its one flag; NOP writes nothing. -/
def Obligations.FlagInstructionsWriteOneFlag : Prop :=
  (∀ (i : Instr) (s : State) (k : Nat) (b : Bool), flagWrite i.mnemonic = some (k, b) →
    ∃ t, exec i s = .next t ∧ t.p.getLsbD k = b ∧ OnlyFlags [k] s.p t.p ∧ Regs t s.a s.x s.y s.sp ∧
      EndsImplied s t 2) ∧
  ∀ s : State, ∃ t, exec .nop s = .next t ∧ t.p = s.p ∧ Regs t s.a s.x s.y s.sp ∧ EndsImplied s t 2

/-! Rules over every instruction -/

/-- R20, R22, R24: a bit of P that an instruction changes is one the table lists it for, and B and U never change; A, X,
Y and S change in the listed instructions only. -/
def Obligations.OnlyListedInstructionsWriteAFlagOrRegister : Prop :=
  ∀ (i : Instr) (s t : State), exec i s = .next t →
    (statusOk s.p = true → ∀ k, t.p.getLsbD k ≠ s.p.getLsbD k → i.mnemonic ∈ flagWriters k) ∧
    (t.a ≠ s.a → i.mnemonic ∈ [.lda, .txa, .tya, .pla, .adc, .sbc, .and, .ora, .eor] ∨
      (i.operand = .acc ∧ i.mnemonic ∈ [.asl, .lsr, .rol, .ror])) ∧
    (t.x ≠ s.x → i.mnemonic ∈ [.ldx, .tax, .tsx, .inx, .dex]) ∧
    (t.y ≠ s.y → i.mnemonic ∈ [.ldy, .tay, .iny, .dey]) ∧
    (t.sp ≠ s.sp → i.mnemonic ∈ [.pha, .php, .pla, .plp, .txs, .jsr, .rts, .brk, .rti])

/-- R44, R150, R332: what cannot reach a result. The ALU never reads the decimal flag: run with D flipped, ADC and SBC give
the same state with D flipped. No instruction reads the master clock's counters, or the last cycle count. -/
def Obligations.DecimalFlagAndClockReachNoResult : Prop :=
  ∀ (i : Instr) (s t : State), exec i s = .next t →
    ((i.mnemonic = .adc ∨ i.mnemonic = .sbc) →
      exec i { s with p := s.p ^^^ 0x08 } = .next { t with p := t.p ^^^ 0x08 }) ∧
    ∀ (k : Clock) (n : Nat), exec i { s with clk := k, cyc := n } = .next { t with clk := k }

/-- R61: an instruction that stores nothing leaves every byte of memory, the cartridge, OAM and the PPU's memories. -/
def Obligations.NonStoringInstructionsLeaveMemory : Prop :=
  ∀ (i : Instr) (s t : State), stores i = false → exec i s = .next t →
    t.ram = s.ram ∧ t.cart = s.cart ∧ (∀ a : Word, InMemory a → peek a t = peek a s) ∧ t.ppu.oam = s.ppu.oam ∧
    t.ppu.ntRam = s.ppu.ntRam ∧ t.ppu.pal = s.ppu.pal

/-- R81, R258: an instruction reaches the PPU's port state only: its raster, pipeline, sprite buffers, output signals and
frame buffer are as before, the sprite flags too, and VBlank is at most cleared. -/
def Obligations.InstructionsLeaveThePpuInternals : Prop :=
  ∀ (i : Instr) (s t : State), exec i s = .next t →
    (t.ppu.scanline, t.ppu.dot, t.ppu.frame) = (s.ppu.scanline, s.ppu.dot, s.ppu.frame) ∧
    (t.ppu.ntByte, t.ppu.atBits, t.ppu.patLo, t.ppu.patHi) = (s.ppu.ntByte, s.ppu.atBits, s.ppu.patLo, s.ppu.patHi) ∧
    (t.ppu.bgShLo, t.ppu.bgShHi, t.ppu.atShLo, t.ppu.atShHi) =
      (s.ppu.bgShLo, s.ppu.bgShHi, s.ppu.atShLo, s.ppu.atShHi) ∧
    (t.ppu.secCount, t.ppu.sec, t.ppu.spr0OnLine) = (s.ppu.secCount, s.ppu.sec, s.ppu.spr0OnLine) ∧
    (t.ppu.sprLo, t.ppu.sprHi, t.ppu.sprAttr, t.ppu.sprX) = (s.ppu.sprLo, s.ppu.sprHi, s.ppu.sprAttr, s.ppu.sprX) ∧
    (t.ppu.nmiOut, t.ppu.frameComplete, t.ppu.fb) = (s.ppu.nmiOut, s.ppu.frameComplete, s.ppu.fb) ∧
    (t.ppu.spr0Hit, t.ppu.sprOverflow) = (s.ppu.spr0Hit, s.ppu.sprOverflow) ∧
    (t.ppu.vblank = true → s.ppu.vblank = true)

/-- R29, R47, R311: no step changes the program ROM, the mapper, the mirroring, pattern ROM, the OPEN parameters or the
host's buttons. -/
def Obligations.StepLeavesTheConfiguration : Prop :=
  ∀ s t : State, step s = .next t →
    t.cart.prg = s.cart.prg ∧ t.cart.prgSize = s.cart.prgSize ∧ t.cart.mapper = s.cart.mapper ∧
    t.cart.mirroring = s.cart.mirroring ∧ t.cart.chrIsRam = s.cart.chrIsRam ∧
    (s.cart.chrIsRam = false → t.cart.chr = s.cart.chr) ∧ t.params = s.params ∧ t.joy.buttons = s.joy.buttons

/-- R326: a step reports between 2 and 520 cycles, and the PPU is owed three dots for each. -/
def Obligations.StepCostsTwoToFiveHundredTwentyCycles : Prop :=
  ∀ s t : State, step s = .next t →
    2 ≤ t.cyc ∧ t.cyc ≤ 520 ∧ t.clk.cpuCycles = s.clk.cpuCycles + t.cyc ∧
    t.clk.ppuDots = s.clk.ppuDots + 3 * t.cyc

/-! The CPU bus -/

/-- R60, R62 to R67: the read decoder, one arm for each address. -/
def Obligations.BusReadDecodesEveryAddress : Prop :=
  ∀ (a : Word) (s : State),
    (a.toNat < 0x2000 → busRead a s = (s.ram.read (a.toNat % 2048), s)) ∧
    (0x2000 ≤ a.toNat → a.toNat < 0x4000 → busRead a s =
      ((s.ppu.portRead s.cart (BitVec.ofNat 3 (a.toNat % 8))).1,
        { s with ppu := (s.ppu.portRead s.cart (BitVec.ofNat 3 (a.toNat % 8))).2 })) ∧
    (a.toNat = 0x4016 → busRead a s = ((s.joy.read s.params).1, { s with joy := (s.joy.read s.params).2 })) ∧
    (a.toNat = 0x4017 → busRead a s = (0x00, s)) ∧
    (0x4000 ≤ a.toNat → a.toNat < 0x8000 → a.toNat ≠ 0x4016 → a.toNat ≠ 0x4017 →
      busRead a s = (s.params.openBus, s)) ∧
    (0x8000 ≤ a.toNat → busRead a s = (s.cart.prg.read ((a.toNat - 0x8000) % s.cart.prgSize.bytes), s))

/-- R61, R62 to R68: the write decoder, one arm for each address. -/
def Obligations.BusWriteDecodesEveryAddress : Prop :=
  ∀ (a : Word) (v : Byte) (s : State),
    (a.toNat < 0x2000 → busWrite a v s = { s with ram := s.ram.write (a.toNat % 2048) v }) ∧
    (0x2000 ≤ a.toNat → a.toNat < 0x4000 → busWrite a v s = portWrite (BitVec.ofNat 3 (a.toNat % 8)) v s) ∧
    (a.toNat = 0x4014 → busWrite a v s = oamDma v s) ∧
    (a.toNat = 0x4016 → busWrite a v s = { s with joy := s.joy.write v }) ∧
    (0x4000 ≤ a.toNat → a.toNat ≠ 0x4014 → a.toNat ≠ 0x4016 → busWrite a v s = s)

/-- R62: a byte written to work RAM is read back at each of its images and nowhere else. -/
def Obligations.RamImagesShareOneCell : Prop :=
  ∀ (s : State) (a b : Word) (v : Byte), s.ram.wf 2048 = true → a.toNat < 0x2000 → b.toNat < 0x2000 →
    peek b (busWrite a v s) = if b.toNat % 2048 = a.toNat % 2048 then v else peek b s

/-- R84: OAM DMA from a page without a device copies its 256 bytes, from `oam_addr` on and wrapping, and costs 513. -/
def Obligations.OamDmaCopiesThePage : Prop :=
  ∀ (v : Byte) (s : State), s.ppu.oam.wf 256 = true → (v.toNat < 0x20 ∨ 0x41 ≤ v.toNat) →
    (∀ k, k < 256 → (oamDma v s).ppu.oam.read ((s.ppu.oamAddr.toNat + k) % 256) =
      peek (BitVec.ofNat 16 (256 * v.toNat + k)) s) ∧
    oamDma v s = { s with ppu := { s.ppu with oam := (oamDma v s).ppu.oam }, cyc := s.cyc + 513 }

/-! The PPU's ports and bus -/

/-- R240, R242, R244, R245, R248, R249, R252, R254, R256, R257: reading each port. -/
def Obligations.PortReadsFollowTheirRules : Prop :=
  ∀ (c : Cartridge) (p : Ppu),
    (∀ k : BitVec 3, k ∈ [0, 1, 3, 5, 6] → p.portRead c k = (p.ioLatch, p)) ∧
    (∃ r : Byte, r.getLsbD 7 = p.vblank ∧ r.getLsbD 6 = p.spr0Hit ∧ r.getLsbD 5 = p.sprOverflow ∧
      (∀ k, k < 5 → r.getLsbD k = p.ioLatch.getLsbD k) ∧
      p.portRead c 2 = (r, { p with vblank := false, w := false, ioLatch := r })) ∧
    p.portRead c 4 = (p.oam.read p.oamAddr.toNat, { p with ioLatch := p.oam.read p.oamAddr.toNat }) ∧
    (let a := p.v.toNat % 16384
     let r := if a < 0x3F00 then p.readBuffer else ppuByte c p a
     let b := if a < 0x3F00 then ppuByte c p a else ppuByte c p (a - 0x1000)
     let v := BitVec.ofNat 15 (p.v.toNat + if p.ctrl.getLsbD 2 then 32 else 1)
     p.portRead c 7 = (r, { p with readBuffer := b, v := v, ioLatch := r }))

/-- R240, R241, R243, R246, R247, R250, R251, R253: writing ports 0 to 6; the I/O latch takes the byte, `t` and `v` change
only in the fields named. -/
def Obligations.PortWritesFollowTheirRules : Prop :=
  ∀ (v : Byte) (s : State),
    (∃ t : BitVec 15, scroll t = { scroll s.ppu.t with ntX := v.toNat % 2, ntY := v.toNat / 2 % 2 } ∧
      portWrite 0 v s = { s with ppu := { s.ppu with ioLatch := v, ctrl := v, t := t } }) ∧
    portWrite 1 v s = { s with ppu := { s.ppu with ioLatch := v, mask := v } } ∧
    portWrite 2 v s = { s with ppu := { s.ppu with ioLatch := v } } ∧
    portWrite 3 v s = { s with ppu := { s.ppu with ioLatch := v, oamAddr := v } } ∧
    portWrite 4 v s = { s with ppu := { s.ppu with
      ioLatch := v, oam := s.ppu.oam.write s.ppu.oamAddr.toNat v, oamAddr := s.ppu.oamAddr + 1 } } ∧
    (s.ppu.w = false → ∃ t : BitVec 15, scroll t = { scroll s.ppu.t with coarseX := v.toNat / 8 } ∧
      portWrite 5 v s = { s with ppu := { s.ppu with
        ioLatch := v, t := t, x := BitVec.ofNat 3 (v.toNat % 8), w := true } }) ∧
    (s.ppu.w = true → ∃ t : BitVec 15,
      scroll t = { scroll s.ppu.t with fineY := v.toNat % 8, coarseY := v.toNat / 8 } ∧
      portWrite 5 v s = { s with ppu := { s.ppu with ioLatch := v, t := t, w := false } }) ∧
    (s.ppu.w = false →
      portWrite 6 v s = { s with ppu := { s.ppu with
        ioLatch := v, t := BitVec.ofNat 15 (v.toNat % 64 * 256 + s.ppu.t.toNat % 256), w := true } }) ∧
    (s.ppu.w = true →
      let t := BitVec.ofNat 15 (s.ppu.t.toNat / 256 * 256 + v.toNat)
      portWrite 6 v s = { s with ppu := { s.ppu with ioLatch := v, t := t, v := t, w := false } })

/-- R74 to R78, R240, R255, R257: a PPU-bus read answers the one cell its address names; writing port 7 writes the one
cell of pattern RAM, nametable RAM or palette RAM that `v` names, and then moves `v`; pattern ROM drops the byte. -/
def Obligations.PpuBusReachesOneCell : Prop :=
  (∀ (c : Cartridge) (p : Ppu) (a : PpuAddr), ppuRead c p a = ppuByte c p a.toNat) ∧
  ∀ (b : Byte) (s : State),
    let a := s.ppu.v.toNat % 16384
    let p : Ppu := { s.ppu with
      ioLatch := b, v := BitVec.ofNat 15 (s.ppu.v.toNat + if s.ppu.ctrl.getLsbD 2 then 32 else 1) }
    (a < 0x2000 → s.cart.chrIsRam = true →
      portWrite 7 b s = { s with cart := { s.cart with chr := s.cart.chr.write a b }, ppu := p }) ∧
    (a < 0x2000 → s.cart.chrIsRam = false → portWrite 7 b s = { s with ppu := p }) ∧
    (0x2000 ≤ a → a < 0x3F00 →
      portWrite 7 b s = { s with ppu := { p with ntRam := p.ntRam.write (ntCell s.cart.mirroring a) b } }) ∧
    (0x3F00 ≤ a →
      portWrite 7 b s = { s with ppu := { p with pal := p.pal.write (palCell a) (BitVec.ofNat 6 b.toNat) } })

/-! The PPU's dot -/

/-- What a dot writes is what R271 to R273, R278 to R286, R288 to R290 and R296 to R300 write, and no dot calls `PpuWrite`
(R75): it writes no latch, memory or scroll register that the ports own. Of the ports' registers it moves only `v`. -/
def Obligations.DotsLeaveThePortState : Prop :=
  ∀ (c : Cartridge) (n : Nat) (p : Ppu),
    let q := Ppu.ticks c n p
    (q.ctrl, q.mask, q.oamAddr, q.t, q.x, q.w) = (p.ctrl, p.mask, p.oamAddr, p.t, p.x, p.w) ∧
    (q.readBuffer, q.ioLatch, q.oam, q.ntRam, q.pal) = (p.readBuffer, p.ioLatch, p.oam, p.ntRam, p.pal)

/-- R272: how a dot advances the counters, and that they return to their place after 262 * 341 dots, one frame later. -/
def Obligations.RasterRepeatsEveryFrame : Prop :=
  (∀ (c : Cartridge) (p : Ppu), p.rasterOk →
    let q := p.tick c
    (p.dot < 340 → (q.scanline, q.dot, q.frame) = (p.scanline, p.dot + 1, p.frame)) ∧
    (p.dot = 340 → p.scanline < 261 → (q.scanline, q.dot, q.frame) = (p.scanline + 1, 0, p.frame)) ∧
    (p.dot = 340 → p.scanline = 261 → (q.scanline, q.dot, q.frame) = (0, 0, p.frame + 1))) ∧
  ∀ (c : Cartridge) (p : Ppu), p.rasterOk →
    let q := Ppu.ticks c 89342 p
    (q.scanline, q.dot, q.frame) = (p.scanline, p.dot, p.frame + 1)

/-- R270, R328, R336: of any 89342 dots in a row exactly one is line 241 dot 1. -/
def Obligations.EveryFrameHasOneVBlankDot : Prop :=
  ∀ (c : Cartridge) (p : Ppu), p.rasterOk →
    ∃ k, k < 89342 ∧ (Ppu.ticks c k p).scanline = 241 ∧ (Ppu.ticks c k p).dot = 1 ∧
      ∀ j, j < 89342 → (Ppu.ticks c j p).scanline = 241 → (Ppu.ticks c j p).dot = 1 → j = k

/-- R273, R300: the status flags and output signals change at their dots only. -/
def Obligations.StatusFlagsChangeAtTheirDots : Prop :=
  ∀ (c : Cartridge) (p : Ppu),
    let q := p.tick c
    let enter := p.scanline = 241 ∧ p.dot = 1
    let clear := p.scanline = 261 ∧ p.dot = 1
    (enter → q.vblank = true ∧ q.frameComplete = true ∧ q.nmiOut = (p.nmiOut || p.ctrl.getLsbD 7)) ∧
    (¬ enter → q.frameComplete = p.frameComplete ∧ q.nmiOut = p.nmiOut) ∧
    (clear → q.vblank = false ∧ q.spr0Hit = false ∧ q.sprOverflow = false) ∧
    (¬ enter → ¬ clear → q.vblank = p.vblank) ∧
    (¬ clear → (p.spr0Hit = true → q.spr0Hit = true) ∧ (p.sprOverflow = true → q.sprOverflow = true)) ∧
    (q.spr0Hit = true → p.spr0Hit = true ∨ (p.scanline < 240 ∧ 1 ≤ p.dot ∧ p.dot ≤ 256)) ∧
    (q.sprOverflow = true → p.sprOverflow = true ∨ (p.scanline < 240 ∧ p.dot = 257))

/-- R278, R282 to R285, R299: where `v` goes at a dot. -/
def Obligations.ScrollAddressMovesOnScheduledDots : Prop :=
  ∀ (c : Cartridge) (p : Ppu),
    (pipelineOn p → scroll (p.tick c).v = Scroll.atDot p.scanline p.dot (scroll p.t) (scroll p.v)) ∧
    (¬ pipelineOn p → (p.tick c).v = p.v)

/-- R278 to R281, R286: the tile latches and shifters at a dot. -/
def Obligations.BackgroundFetchesAndShiftsOnSchedule : Prop :=
  ∀ (c : Cartridge) (p : Ppu),
    let q := p.tick c
    let w := scroll p.v
    let tile := 4096 * (p.ctrl.getLsbD 4).toNat + 16 * p.ntByte.toNat + w.fineY
    (¬ pipelineOn p → (q.ntByte, q.atBits, q.patLo, q.patHi, q.bgShLo, q.bgShHi, q.atShLo, q.atShHi) =
      (p.ntByte, p.atBits, p.patLo, p.patHi, p.bgShLo, p.bgShHi, p.atShLo, p.atShHi)) ∧
    (pipelineOn p →
      q.ntByte = (if fetches p.dot ∧ p.dot % 8 = 1 then ppuByte c p (0x2000 + p.v.toNat % 4096) else p.ntByte) ∧
      q.atBits.toNat = (if fetches p.dot ∧ p.dot % 8 = 3 then
          (ppuByte c p (0x23C0 + 2048 * w.ntY + 1024 * w.ntX + 8 * (w.coarseY / 4) + w.coarseX / 4)).toNat
            / 2 ^ (4 * (w.coarseY / 2 % 2) + 2 * (w.coarseX / 2 % 2)) % 4
        else p.atBits.toNat) ∧
      q.patLo = (if fetches p.dot ∧ p.dot % 8 = 5 then ppuByte c p tile else p.patLo) ∧
      q.patHi = (if fetches p.dot ∧ p.dot % 8 = 7 then ppuByte c p (tile + 8) else p.patHi) ∧
      q.bgShLo.toNat = shifterAtDot p.dot p.bgShLo p.patLo.toNat ∧
      q.bgShHi.toNat = shifterAtDot p.dot p.bgShHi p.patHi.toNat ∧
      q.atShLo.toNat = shifterAtDot p.dot p.atShLo (255 * (p.atBits.toNat % 2)) ∧
      q.atShHi.toNat = shifterAtDot p.dot p.atShHi (255 * (p.atBits.toNat / 2)))

/-- R289: evaluation takes the first eight entries in range, in OAM order, and raises the overflow flag by the quirk: after
the eighth, the byte tested moves with the entry. -/
def Obligations.SpriteEvaluationTakesTheFirstEight : Prop :=
  ∀ (p : Ppu) (s : Nat), p.sec.wf 32 = true →
    let q := p.evaluateSprites s
    let l := inRangeEntries p s
    q.secCount = min 8 l.length ∧
    (∀ k b, k < q.secCount → b < 4 → q.sec.read (4 * k + b) = p.oam.read (4 * l.getD k 0 + b)) ∧
    q.spr0OnLine = covers p s (p.oam.read 0) ∧
    (q.sprOverflow = true ↔ p.sprOverflow = true ∨
      (8 ≤ l.length ∧ ∃ j, l.getD 7 0 + 1 + j < 64 ∧
        covers p s (p.oam.read (4 * (l.getD 7 0 + 1 + j) + j % 4)) = true))

/-- R288, R290: at dot 257 a visible line with rendering on fetches a pattern row for each sprite found; without rendering,
or on the pre-render line, the buffers are emptied; on the other lines nothing happens. -/
def Obligations.SpriteRowsAreFetchedForTheNextLine : Prop :=
  ∀ (c : Cartridge) (p : Ppu) (s : Nat),
    p.sec.wf 32 = true → p.sprLo.wf 8 = true → p.sprHi.wf 8 = true → p.sprAttr.wf 8 = true → p.sprX.wf 8 = true →
    let on := p.mask.getLsbD 3 = true ∨ p.mask.getLsbD 4 = true
    let e := p.evaluateSprites s
    let q := p.spriteLineSetup c s
    (s < 240 → on → q.secCount = e.secCount ∧ q.spr0OnLine = e.spr0OnLine ∧ ∀ i, i < e.secCount →
      let y := (e.sec.read (4 * i)).toNat
      let tile := (e.sec.read (4 * i + 1)).toNat
      let attr := e.sec.read (4 * i + 2)
      let row := if attr.getLsbD 7 then height p - 1 - (s - y) else s - y
      let a := if p.ctrl.getLsbD 5 then 4096 * (tile % 2) + 16 * (tile / 2 * 2) + 16 * (row / 8 % 2) + row % 8
        else 4096 * (p.ctrl.getLsbD 3).toNat + 16 * tile + row
      (∀ k, k < 8 → (q.sprLo.read i).getLsbD k =
        (ppuByte c p a).getLsbD (if attr.getLsbD 6 then 7 - k else k)) ∧
      (∀ k, k < 8 → (q.sprHi.read i).getLsbD k =
        (ppuByte c p (a + 8)).getLsbD (if attr.getLsbD 6 then 7 - k else k)) ∧
      q.sprAttr.read i = attr ∧ q.sprX.read i = e.sec.read (4 * i + 3)) ∧
    ((s < 240 ∧ ¬ on) ∨ s = 261 → q.secCount = 0 ∧ q.spr0OnLine = false) ∧
    (240 ≤ s → s ≠ 261 → q = p)

/-- R271, R287, R292, R296 to R298: at a visible dot one frame-buffer cell takes the composed pixel, as the state after the
background's part of the dot gives it, and sprite 0 hits where it wins over an opaque background pixel. -/
def Obligations.VisibleDotsWriteTheComposedPixel : Prop :=
  ∀ (c : Cartridge) (p : Ppu), p.fb.wf 61440 = true →
    let q := p.tick c
    let b := p.backgroundStep c p.scanline p.dot
    let x := p.dot - 1
    (p.scanline < 240 ∧ 1 ≤ p.dot ∧ p.dot ≤ 256 →
      (q.fb.read (256 * p.scanline + x)).toNat = cellValue b (chosenCell b x) ∧
      (∀ k, k ≠ 256 * p.scanline + x → q.fb.read k = p.fb.read k) ∧
      (q.spr0Hit = true ↔ p.spr0Hit = true ∨
        (bgPx b x ≠ 0 ∧ winner b x = some 0 ∧ b.spr0OnLine = true ∧ x ≠ 255))) ∧
    (¬ (p.scanline < 240 ∧ 1 ≤ p.dot ∧ p.dot ≤ 256) → q.fb = p.fb)

/-- R299: with rendering disabled a dot leaves `v` and the background pipeline, empties the sprite buffers at dot 257 of a
render line, and shows the backdrop entry. -/
def Obligations.DisabledRenderingShowsTheBackdrop : Prop :=
  ∀ (c : Cartridge) (p : Ppu), p.fb.wf 61440 = true → p.mask.getLsbD 3 = false → p.mask.getLsbD 4 = false →
    let q := p.tick c
    q.v = p.v ∧
    (p.dot = 257 → p.scanline < 240 ∨ p.scanline = 261 → q.secCount = 0 ∧ q.spr0OnLine = false) ∧
    (p.scanline < 240 → 1 ≤ p.dot → p.dot ≤ 256 →
      (q.fb.read (256 * p.scanline + (p.dot - 1))).toNat = cellValue p 0)

/-! Joypad -/

/-- R312, R314, R315: after a strobe of 1 then 0, eight reads give the buttons of the first write in order, whatever the
host does in between, and later reads the fixed bit; bits 7:1 are the parameter. -/
def Obligations.JoypadDeliversTheSnapshot : Prop :=
  ∀ (q : Params) (j : Joypad) (b1 b2 : Byte) (ms : List Byte) (k : Nat), b1.getLsbD 0 = true → b2.getLsbD 0 = false →
    k < ms.length →
    ((joySeries q ms ((j.write b1).write b2)).getD k 0).toNat =
      2 * q.joyUpper.toNat + (if k < 8 then j.buttons.getLsbD k else q.joyExhausted).toNat

/-! Reset, load, frames, invariant -/

/-- R48, R49, R370 to R372: `reset()` sets the CPU's registers, drops a pending NMI and leaves everything else; power-on
gives every field its table value. One clause is the model's choice: that work RAM, OAM, nametable and palette RAM read 0
takes the OPEN parameter `INIT_MEM` at its default 0x00 (DESIGN CHOICE, log entry 4). -/
def Obligations.ResetAndPowerOnGiveTheTableValues : Prop :=
  (∀ s : State, State.hostReset s =
    { s with
      a := 0, x := 0, y := 0, sp := 0xFD, p := 0x24, nmiPending := false
      pc := word (peek 0xFFFC s) (peek 0xFFFD s) }) ∧
  ∀ c : Cartridge,
    let s := State.powerOn c
    s.a = 0 ∧ s.x = 0 ∧ s.y = 0 ∧ s.sp = 0xFD ∧ s.p = 0x24 ∧ s.nmiPending = false ∧ s.fault = none ∧
    s.pc = word (peek 0xFFFC s) (peek 0xFFFD s) ∧ s.cart = c ∧ s.clk = { cpuCycles := 0, ppuDots := 0 } ∧
    s.joy = { buttons := 0, snapshot := 0, index := 0, strobe := false } ∧
    (∀ k, s.ram.read k = 0 ∧ s.ppu.oam.read k = 0 ∧ s.ppu.ntRam.read k = 0 ∧ s.ppu.pal.read k = 0 ∧
      s.ppu.fb.read k = 0 ∧ s.ppu.sec.read k = 0 ∧ s.ppu.sprLo.read k = 0 ∧ s.ppu.sprHi.read k = 0 ∧
      s.ppu.sprAttr.read k = 0 ∧ s.ppu.sprX.read k = 0) ∧
    (s.ppu.ctrl, s.ppu.mask, s.ppu.oamAddr, s.ppu.readBuffer, s.ppu.ioLatch) = (0, 0, 0, 0, 0) ∧
    (s.ppu.vblank, s.ppu.spr0Hit, s.ppu.sprOverflow, s.ppu.spr0OnLine, s.ppu.w, s.ppu.nmiOut, s.ppu.frameComplete) =
      (false, false, false, false, false, false, false) ∧
    (s.ppu.v, s.ppu.t, s.ppu.x) = (0, 0, 0) ∧
    (s.ppu.ntByte, s.ppu.atBits, s.ppu.patLo, s.ppu.patHi) = (0, 0, 0, 0) ∧
    (s.ppu.bgShLo, s.ppu.bgShHi, s.ppu.atShLo, s.ppu.atShHi) = (0, 0, 0, 0) ∧
    (s.ppu.scanline, s.ppu.dot, s.ppu.frame, s.ppu.secCount) = (0, 0, 0, 0)

/-- R377, R378: a ROM file loads exactly where its header passes the checks and it is long enough; the bytes are sliced
into the regions; a failure is named by the first check that fails. -/
def Obligations.CartridgeLoadFollowsTheHeader : Prop :=
  ∀ bs : List Byte,
    let byte := fun k => bs.getD k 0
    let magic := byte 0 = 0x4E ∧ byte 1 = 0x45 ∧ byte 2 = 0x53 ∧ byte 3 = 0x1A
    let mapper := (byte 7).toNat / 16 * 16 + (byte 6).toNat / 16
    let sized := (byte 4 = 1 ∨ byte 4 = 2) ∧ (byte 5).toNat ≤ 1
    let off := 16 + 512 * ((byte 6).getLsbD 2).toNat
    let prgLen := 16384 * (byte 4).toNat
    let chrLen := 8192 * (byte 5).toNat
    (bs.length < 16 → loadCartridge bs = .error .truncated) ∧
    (16 ≤ bs.length → ¬ magic → loadCartridge bs = .error .badMagic) ∧
    (16 ≤ bs.length → magic → mapper ≠ 0 → loadCartridge bs = .error .unsupportedMapper) ∧
    (16 ≤ bs.length → magic → mapper = 0 → ¬ sized → loadCartridge bs = .error .unsupportedSize) ∧
    (16 ≤ bs.length → magic → mapper = 0 → sized → bs.length < off + prgLen + chrLen →
      loadCartridge bs = .error .truncated) ∧
    (16 ≤ bs.length → magic → mapper = 0 → sized → off + prgLen + chrLen ≤ bs.length →
      ∃ c, loadCartridge bs = .ok c ∧ c.prgSize.bytes = prgLen ∧ c.mapper = 0 ∧
        (∀ k, k < prgLen → c.prg.read k = byte (off + k)) ∧ c.prg.wf prgLen = true ∧
        c.chrIsRam = decide (byte 5 = 0) ∧ c.chr.wf 8192 = true ∧
        (∀ k, k < 8192 → c.chr.read k = if byte 5 = 0 then 0 else byte (off + prgLen + k)) ∧
        c.mirroring = if (byte 6).getLsbD 3 then .fourScreen
          else if (byte 6).getLsbD 0 then .vertical else .horizontal)

/-- R329, R336: a frame ends within the model's bound of driver steps (DEDUCED, log entry 8), by VBlank or by a fault. -/
def Obligations.RunFrameEndsWithinItsBound : Prop :=
  ∀ s : State, s.ppu.rasterOk →
    (runUntilFrame frameBound s).ppu.frameComplete = true ∨ (runUntilFrame frameBound s).fault.isSome = true

/-- The state after reset meets the invariant. -/
def Obligations.ResetMeetsTheInvariant : Prop := State.reset.Inv

/-- R23, R34, R40, R44, R316, R372 and the canonical form of every array: every step keeps the invariant. -/
def Obligations.StepKeepsTheInvariant : Prop := ∀ s t : State, s.Inv → step s = .next t → t.Inv
end

