-- ==== Sys2Proof/Laws/Memory.lean ====
section
/-! SUPPORT. The laws of arrays: a write is read back, leaves every other cell alone and keeps the canonical form. -/

namespace Sys2Proof.Machine.Memory

variable {w : Nat}

/-- A canonical array from `lo` on, taken apart at its first cell. -/
theorem wfFrom_cons {size lo k : Nat} {u : BitVec w} {m : Memory w} :
    wfFrom size lo ((k, u) :: m) = true ↔ lo ≤ k ∧ k < size ∧ u ≠ 0 ∧ wfFrom size (k + 1) m = true := by
  simp [wfFrom, unlisted, and_assoc]

theorem wfFrom_mono {size lo lo' : Nat} {m : Memory w} (h : wfFrom size lo m = true) (hl : lo' ≤ lo) :
    wfFrom size lo' m = true := by
  cases m with
  | nil => rfl
  | cons c m => obtain ⟨k, u⟩ := c; rw [wfFrom_cons] at h ⊢; exact ⟨hl.trans h.1, h.2⟩

/-- Below the first index every cell reads as 0. -/
theorem read_below {size lo i : Nat} {m : Memory w} (h : wfFrom size lo m = true) (hi : i < lo) : m.read i = 0 := by
  cases m with
  | nil => rfl
  | cons c m =>
    obtain ⟨k, u⟩ := c
    rw [wfFrom_cons] at h
    simp [read, unlisted, show i < k by omega]

theorem read_consCell_same {size i : Nat} {v : BitVec w} {m : Memory w} (h : wfFrom size (i + 1) m = true) :
    (consCell i v m).read i = v := by
  by_cases hv : v = unlisted w
  · rw [consCell, if_pos hv, read_below h (by omega), hv]; rfl
  · simp [consCell, hv, read]

theorem read_consCell_other {size i j : Nat} {v : BitVec w} {m : Memory w} (h : wfFrom size (i + 1) m = true)
    (hij : i ≠ j) : (consCell i v m).read j = m.read j := by
  by_cases hv : v = unlisted w
  · simp [consCell, hv]
  · by_cases hj : j < i
    · rw [consCell, if_neg hv, read, if_pos hj, read_below h (by omega)]; rfl
    · rw [consCell, if_neg hv, read, if_neg hj, if_neg (Ne.symm hij)]

theorem wfFrom_consCell {size lo i : Nat} {v : BitVec w} {m : Memory w} (h : wfFrom size (i + 1) m = true)
    (hl : lo ≤ i) (hs : i < size) : wfFrom size lo (consCell i v m) = true := by
  by_cases hv : v = unlisted w
  · rw [consCell, if_pos hv]; exact wfFrom_mono h (by omega)
  · rw [consCell, if_neg hv, wfFrom_cons]; exact ⟨hl, hs, hv, h⟩

theorem wfFrom_raise {size lo i k : Nat} {u : BitVec w} {m : Memory w} (h : wfFrom size lo ((k, u) :: m) = true)
    (hi : i < k) : wfFrom size (i + 1) ((k, u) :: m) = true := by
  rw [wfFrom_cons] at h ⊢; exact ⟨by omega, h.2⟩

theorem wfFrom_write {size lo i : Nat} {v : BitVec w} {m : Memory w} (h : wfFrom size lo m = true) (hl : lo ≤ i)
    (hs : i < size) : wfFrom size lo (m.write i v) = true := by
  induction m generalizing lo with
  | nil => exact wfFrom_consCell rfl hl hs
  | cons c m ih =>
    obtain ⟨k, u⟩ := c
    by_cases h1 : i < k
    · simpa [write, h1] using wfFrom_consCell (wfFrom_raise h h1) hl hs
    · rw [wfFrom_cons] at h
      by_cases h2 : i = k
      · subst h2; simpa [write] using wfFrom_consCell h.2.2.2 hl hs
      · simp only [write, if_neg h1, if_neg h2, wfFrom_cons]
        exact ⟨h.1, h.2.1, h.2.2.1, ih h.2.2.2 (by omega)⟩

theorem readFrom_write_same {size lo i : Nat} {v : BitVec w} {m : Memory w} (h : wfFrom size lo m = true) :
    (m.write i v).read i = v := by
  induction m generalizing lo with
  | nil => exact read_consCell_same (size := i) rfl
  | cons c m ih =>
    obtain ⟨k, u⟩ := c
    by_cases h1 : i < k
    · simpa [write, h1] using read_consCell_same (wfFrom_raise h h1)
    · rw [wfFrom_cons] at h
      by_cases h2 : i = k
      · subst h2; simpa [write] using read_consCell_same h.2.2.2
      · simpa [write, h1, h2, read] using ih h.2.2.2

theorem readFrom_write_other {size lo i j : Nat} {v : BitVec w} {m : Memory w} (h : wfFrom size lo m = true)
    (hij : i ≠ j) : (m.write i v).read j = m.read j := by
  induction m generalizing lo with
  | nil => exact read_consCell_other (size := i) rfl hij
  | cons c m ih =>
    obtain ⟨k, u⟩ := c
    by_cases h1 : i < k
    · simpa [write, h1] using read_consCell_other (wfFrom_raise h h1) hij
    · rw [wfFrom_cons] at h
      by_cases h2 : i = k
      · subst h2
        have := read_consCell_other (v := v) h.2.2.2 hij
        by_cases hj : j < i
        · simp [write, this, read, hj, unlisted, read_below h.2.2.2 (show j < i + 1 by omega)]
        · simp [write, this, read, hj, Ne.symm hij]
      · by_cases hj : j < k
        · simp [write, h1, h2, read, hj]
        · by_cases hj' : j = k
          · simp [write, h1, h2, read, hj']
          · simpa [write, h1, h2, read, hj, hj'] using ih h.2.2.2

/-- A write below the size keeps the canonical form. -/
theorem wf_write {size i : Nat} {v : BitVec w} {m : Memory w} (h : m.wf size = true) (hs : i < size) :
    (m.write i v).wf size = true := wfFrom_write h (Nat.zero_le i) hs

/-- A read after a write to the same cell gives the value written. -/
theorem read_write_same {size i : Nat} {v : BitVec w} {m : Memory w} (h : m.wf size = true) :
    (m.write i v).read i = v := readFrom_write_same h

/-- A write leaves every other cell alone. -/
theorem read_write_other {size i j : Nat} {v : BitVec w} {m : Memory w} (h : m.wf size = true) (hij : i ≠ j) :
    (m.write i v).read j = m.read j := readFrom_write_other h hij

/-- Both laws at once. -/
theorem read_write {size i j : Nat} {v : BitVec w} {m : Memory w} (h : m.wf size = true) :
    (m.write i v).read j = if i = j then v else m.read j := by
  split
  · next e => exact e ▸ read_write_same h
  · next e => exact read_write_other h e

@[simp] theorem read_nil (i : Nat) : read ([] : Memory w) i = 0 := rfl

@[simp] theorem wf_nil (size : Nat) : wf size ([] : Memory w) = true := rfl

theorem wfFrom_ofListFrom {size i : Nat} {vs : List (BitVec w)} (h : i + vs.length ≤ size) :
    wfFrom size i (ofListFrom i vs) = true := by
  induction vs generalizing i with
  | nil => rfl
  | cons v vs ih =>
    simp only [List.length_cons] at h
    exact wfFrom_consCell (ih (by omega)) (le_refl i) (by omega)

/-- An array made from a list is canonical. -/
theorem wf_ofList {size : Nat} {vs : List (BitVec w)} (h : vs.length ≤ size) : (ofList vs).wf size = true :=
  wfFrom_ofListFrom (by omega)

theorem read_ofListFrom {i j : Nat} {vs : List (BitVec w)} :
    (ofListFrom i vs).read (i + j) = vs.getD j 0 := by
  induction vs generalizing i j with
  | nil => rfl
  | cons v vs ih =>
    have hw : wfFrom (i + 1 + vs.length) (i + 1) (ofListFrom (i + 1) vs) = true := wfFrom_ofListFrom (le_refl _)
    cases j with
    | zero => simpa [ofListFrom] using read_consCell_same hw
    | succ j =>
      rw [ofListFrom, read_consCell_other hw (by omega), show i + (j + 1) = (i + 1) + j by omega, ih]
      rfl

/-- An array made from a list reads as the list. -/
theorem read_ofList {j : Nat} {vs : List (BitVec w)} : (ofList vs).read j = vs.getD j 0 := by
  simpa [ofList] using read_ofListFrom (i := 0) (j := j) (vs := vs)

end Sys2Proof.Machine.Memory
end

