-- ==== Sys2Proof/Laws/State.lean ====
section
/-! SUPPORT. What each named update leaves in each field: one conjunct per field, so that no later proof unfolds a record
update. -/

namespace Sys2Proof.Machine.State

@[simp] theorem setA_fields (v : Byte) (s : State) :
    (s.setA v).a = v ∧ (s.setA v).x = s.x ∧ (s.setA v).y = s.y ∧ (s.setA v).sp = s.sp ∧ (s.setA v).pc = s.pc ∧
    (s.setA v).p = s.p ∧ (s.setA v).nmiPending = s.nmiPending ∧ (s.setA v).cyc = s.cyc ∧ (s.setA v).fault = s.fault ∧
    (s.setA v).ram = s.ram ∧ (s.setA v).cart = s.cart ∧ (s.setA v).ppu = s.ppu ∧ (s.setA v).joy = s.joy ∧
    (s.setA v).clk = s.clk ∧ (s.setA v).params = s.params :=
  ⟨rfl, rfl, rfl, rfl, rfl, rfl, rfl, rfl, rfl, rfl, rfl, rfl, rfl, rfl, rfl⟩

@[simp] theorem setX_fields (v : Byte) (s : State) :
    (s.setX v).a = s.a ∧ (s.setX v).x = v ∧ (s.setX v).y = s.y ∧ (s.setX v).sp = s.sp ∧ (s.setX v).pc = s.pc ∧
    (s.setX v).p = s.p ∧ (s.setX v).nmiPending = s.nmiPending ∧ (s.setX v).cyc = s.cyc ∧ (s.setX v).fault = s.fault ∧
    (s.setX v).ram = s.ram ∧ (s.setX v).cart = s.cart ∧ (s.setX v).ppu = s.ppu ∧ (s.setX v).joy = s.joy ∧
    (s.setX v).clk = s.clk ∧ (s.setX v).params = s.params :=
  ⟨rfl, rfl, rfl, rfl, rfl, rfl, rfl, rfl, rfl, rfl, rfl, rfl, rfl, rfl, rfl⟩

@[simp] theorem setY_fields (v : Byte) (s : State) :
    (s.setY v).a = s.a ∧ (s.setY v).x = s.x ∧ (s.setY v).y = v ∧ (s.setY v).sp = s.sp ∧ (s.setY v).pc = s.pc ∧
    (s.setY v).p = s.p ∧ (s.setY v).nmiPending = s.nmiPending ∧ (s.setY v).cyc = s.cyc ∧ (s.setY v).fault = s.fault ∧
    (s.setY v).ram = s.ram ∧ (s.setY v).cart = s.cart ∧ (s.setY v).ppu = s.ppu ∧ (s.setY v).joy = s.joy ∧
    (s.setY v).clk = s.clk ∧ (s.setY v).params = s.params :=
  ⟨rfl, rfl, rfl, rfl, rfl, rfl, rfl, rfl, rfl, rfl, rfl, rfl, rfl, rfl, rfl⟩

@[simp] theorem setSp_fields (v : Byte) (s : State) :
    (s.setSp v).a = s.a ∧ (s.setSp v).x = s.x ∧ (s.setSp v).y = s.y ∧ (s.setSp v).sp = v ∧ (s.setSp v).pc = s.pc ∧
    (s.setSp v).p = s.p ∧ (s.setSp v).nmiPending = s.nmiPending ∧ (s.setSp v).cyc = s.cyc ∧
    (s.setSp v).fault = s.fault ∧ (s.setSp v).ram = s.ram ∧ (s.setSp v).cart = s.cart ∧ (s.setSp v).ppu = s.ppu ∧
    (s.setSp v).joy = s.joy ∧ (s.setSp v).clk = s.clk ∧ (s.setSp v).params = s.params :=
  ⟨rfl, rfl, rfl, rfl, rfl, rfl, rfl, rfl, rfl, rfl, rfl, rfl, rfl, rfl, rfl⟩

@[simp] theorem setPc_fields (v : Word) (s : State) :
    (s.setPc v).a = s.a ∧ (s.setPc v).x = s.x ∧ (s.setPc v).y = s.y ∧ (s.setPc v).sp = s.sp ∧ (s.setPc v).pc = v ∧
    (s.setPc v).p = s.p ∧ (s.setPc v).nmiPending = s.nmiPending ∧ (s.setPc v).cyc = s.cyc ∧
    (s.setPc v).fault = s.fault ∧ (s.setPc v).ram = s.ram ∧ (s.setPc v).cart = s.cart ∧ (s.setPc v).ppu = s.ppu ∧
    (s.setPc v).joy = s.joy ∧ (s.setPc v).clk = s.clk ∧ (s.setPc v).params = s.params :=
  ⟨rfl, rfl, rfl, rfl, rfl, rfl, rfl, rfl, rfl, rfl, rfl, rfl, rfl, rfl, rfl⟩

@[simp] theorem setP_fields (v : Byte) (s : State) :
    (s.setP v).a = s.a ∧ (s.setP v).x = s.x ∧ (s.setP v).y = s.y ∧ (s.setP v).sp = s.sp ∧ (s.setP v).pc = s.pc ∧
    (s.setP v).p = v ∧ (s.setP v).nmiPending = s.nmiPending ∧ (s.setP v).cyc = s.cyc ∧ (s.setP v).fault = s.fault ∧
    (s.setP v).ram = s.ram ∧ (s.setP v).cart = s.cart ∧ (s.setP v).ppu = s.ppu ∧ (s.setP v).joy = s.joy ∧
    (s.setP v).clk = s.clk ∧ (s.setP v).params = s.params :=
  ⟨rfl, rfl, rfl, rfl, rfl, rfl, rfl, rfl, rfl, rfl, rfl, rfl, rfl, rfl, rfl⟩

@[simp] theorem setNmiPending_fields (v : Bool) (s : State) :
    (s.setNmiPending v).a = s.a ∧ (s.setNmiPending v).x = s.x ∧ (s.setNmiPending v).y = s.y ∧
    (s.setNmiPending v).sp = s.sp ∧ (s.setNmiPending v).pc = s.pc ∧ (s.setNmiPending v).p = s.p ∧
    (s.setNmiPending v).nmiPending = v ∧ (s.setNmiPending v).cyc = s.cyc ∧ (s.setNmiPending v).fault = s.fault ∧
    (s.setNmiPending v).ram = s.ram ∧ (s.setNmiPending v).cart = s.cart ∧ (s.setNmiPending v).ppu = s.ppu ∧
    (s.setNmiPending v).joy = s.joy ∧ (s.setNmiPending v).clk = s.clk ∧ (s.setNmiPending v).params = s.params :=
  ⟨rfl, rfl, rfl, rfl, rfl, rfl, rfl, rfl, rfl, rfl, rfl, rfl, rfl, rfl, rfl⟩

@[simp] theorem setCyc_fields (v : Nat) (s : State) :
    (s.setCyc v).a = s.a ∧ (s.setCyc v).x = s.x ∧ (s.setCyc v).y = s.y ∧ (s.setCyc v).sp = s.sp ∧
    (s.setCyc v).pc = s.pc ∧ (s.setCyc v).p = s.p ∧ (s.setCyc v).nmiPending = s.nmiPending ∧ (s.setCyc v).cyc = v ∧
    (s.setCyc v).fault = s.fault ∧ (s.setCyc v).ram = s.ram ∧ (s.setCyc v).cart = s.cart ∧ (s.setCyc v).ppu = s.ppu ∧
    (s.setCyc v).joy = s.joy ∧ (s.setCyc v).clk = s.clk ∧ (s.setCyc v).params = s.params :=
  ⟨rfl, rfl, rfl, rfl, rfl, rfl, rfl, rfl, rfl, rfl, rfl, rfl, rfl, rfl, rfl⟩

@[simp] theorem setFault_fields (v : Option Fault) (s : State) :
    (s.setFault v).a = s.a ∧ (s.setFault v).x = s.x ∧ (s.setFault v).y = s.y ∧ (s.setFault v).sp = s.sp ∧
    (s.setFault v).pc = s.pc ∧ (s.setFault v).p = s.p ∧ (s.setFault v).nmiPending = s.nmiPending ∧
    (s.setFault v).cyc = s.cyc ∧ (s.setFault v).fault = v ∧ (s.setFault v).ram = s.ram ∧
    (s.setFault v).cart = s.cart ∧ (s.setFault v).ppu = s.ppu ∧ (s.setFault v).joy = s.joy ∧
    (s.setFault v).clk = s.clk ∧ (s.setFault v).params = s.params :=
  ⟨rfl, rfl, rfl, rfl, rfl, rfl, rfl, rfl, rfl, rfl, rfl, rfl, rfl, rfl, rfl⟩

@[simp] theorem setRam_fields (v : Memory 8) (s : State) :
    (s.setRam v).a = s.a ∧ (s.setRam v).x = s.x ∧ (s.setRam v).y = s.y ∧ (s.setRam v).sp = s.sp ∧
    (s.setRam v).pc = s.pc ∧ (s.setRam v).p = s.p ∧ (s.setRam v).nmiPending = s.nmiPending ∧
    (s.setRam v).cyc = s.cyc ∧ (s.setRam v).fault = s.fault ∧ (s.setRam v).ram = v ∧ (s.setRam v).cart = s.cart ∧
    (s.setRam v).ppu = s.ppu ∧ (s.setRam v).joy = s.joy ∧ (s.setRam v).clk = s.clk ∧ (s.setRam v).params = s.params :=
  ⟨rfl, rfl, rfl, rfl, rfl, rfl, rfl, rfl, rfl, rfl, rfl, rfl, rfl, rfl, rfl⟩

@[simp] theorem setCart_fields (v : Cartridge) (s : State) :
    (s.setCart v).a = s.a ∧ (s.setCart v).x = s.x ∧ (s.setCart v).y = s.y ∧ (s.setCart v).sp = s.sp ∧
    (s.setCart v).pc = s.pc ∧ (s.setCart v).p = s.p ∧ (s.setCart v).nmiPending = s.nmiPending ∧
    (s.setCart v).cyc = s.cyc ∧ (s.setCart v).fault = s.fault ∧ (s.setCart v).ram = s.ram ∧ (s.setCart v).cart = v ∧
    (s.setCart v).ppu = s.ppu ∧ (s.setCart v).joy = s.joy ∧ (s.setCart v).clk = s.clk ∧
    (s.setCart v).params = s.params :=
  ⟨rfl, rfl, rfl, rfl, rfl, rfl, rfl, rfl, rfl, rfl, rfl, rfl, rfl, rfl, rfl⟩

@[simp] theorem setPpu_fields (v : Ppu) (s : State) :
    (s.setPpu v).a = s.a ∧ (s.setPpu v).x = s.x ∧ (s.setPpu v).y = s.y ∧ (s.setPpu v).sp = s.sp ∧
    (s.setPpu v).pc = s.pc ∧ (s.setPpu v).p = s.p ∧ (s.setPpu v).nmiPending = s.nmiPending ∧
    (s.setPpu v).cyc = s.cyc ∧ (s.setPpu v).fault = s.fault ∧ (s.setPpu v).ram = s.ram ∧ (s.setPpu v).cart = s.cart ∧
    (s.setPpu v).ppu = v ∧ (s.setPpu v).joy = s.joy ∧ (s.setPpu v).clk = s.clk ∧ (s.setPpu v).params = s.params :=
  ⟨rfl, rfl, rfl, rfl, rfl, rfl, rfl, rfl, rfl, rfl, rfl, rfl, rfl, rfl, rfl⟩

@[simp] theorem setJoy_fields (v : Joypad) (s : State) :
    (s.setJoy v).a = s.a ∧ (s.setJoy v).x = s.x ∧ (s.setJoy v).y = s.y ∧ (s.setJoy v).sp = s.sp ∧
    (s.setJoy v).pc = s.pc ∧ (s.setJoy v).p = s.p ∧ (s.setJoy v).nmiPending = s.nmiPending ∧
    (s.setJoy v).cyc = s.cyc ∧ (s.setJoy v).fault = s.fault ∧ (s.setJoy v).ram = s.ram ∧ (s.setJoy v).cart = s.cart ∧
    (s.setJoy v).ppu = s.ppu ∧ (s.setJoy v).joy = v ∧ (s.setJoy v).clk = s.clk ∧ (s.setJoy v).params = s.params :=
  ⟨rfl, rfl, rfl, rfl, rfl, rfl, rfl, rfl, rfl, rfl, rfl, rfl, rfl, rfl, rfl⟩

@[simp] theorem setClk_fields (v : Clock) (s : State) :
    (s.setClk v).a = s.a ∧ (s.setClk v).x = s.x ∧ (s.setClk v).y = s.y ∧ (s.setClk v).sp = s.sp ∧
    (s.setClk v).pc = s.pc ∧ (s.setClk v).p = s.p ∧ (s.setClk v).nmiPending = s.nmiPending ∧
    (s.setClk v).cyc = s.cyc ∧ (s.setClk v).fault = s.fault ∧ (s.setClk v).ram = s.ram ∧ (s.setClk v).cart = s.cart ∧
    (s.setClk v).ppu = s.ppu ∧ (s.setClk v).joy = s.joy ∧ (s.setClk v).clk = v ∧ (s.setClk v).params = s.params :=
  ⟨rfl, rfl, rfl, rfl, rfl, rfl, rfl, rfl, rfl, rfl, rfl, rfl, rfl, rfl, rfl⟩

end Sys2Proof.Machine.State
end

