-- ==== Sys2Proof/Laws/Bus.lean ====
section
/-! SUPPORT. What a bus read and a bus write can do to the state, said once. -/

namespace Sys2Proof.Machine

/-- A work-RAM address decodes to its cell (spec/20_memory.md R62). -/
theorem busTarget_ram {addr : Word} (h : addr.toNat < 0x2000) : busTarget addr = .ram (addr.toNat % 2048) := by
  have h1 : addr ≤ (0x1FFF : Word) := by rw [BitVec.le_def]; simp; omega
  rw [busTarget, if_pos h1]
  congr 1
  rw [BitVec.toNat_and, show (0x07FF : Word).toNat = 2 ^ 11 - 1 by rfl, Nat.and_two_pow_sub_one_eq_mod]

/-- A program-ROM address decodes to the cartridge (R67). -/
theorem busTarget_prg {addr : Word} (h : 0x8000 ≤ addr.toNat) : busTarget addr = .prg := by
  have hle : ∀ k : Word, k.toNat < 0x8000 → ¬ addr ≤ k := fun k hk => by rw [BitVec.le_def]; omega
  have hne : ∀ k : Word, k.toNat < 0x8000 → ¬ addr = k := fun k hk e => by subst e; omega
  simp [busTarget, hle, hne]

/-- A PPU-port address decodes to its port (R63). -/
theorem busTarget_port {addr : Word} (h : 0x2000 ≤ addr.toNat) (h' : addr.toNat < 0x4000) :
    busTarget addr = .port (BitVec.ofNat 3 addr.toNat) := by
  have h1 : ¬ addr ≤ (0x1FFF : Word) := by rw [BitVec.le_def]; simp; omega
  have h2 : addr ≤ (0x3FFF : Word) := by rw [BitVec.le_def]; simp; omega
  rw [busTarget, if_neg h1, if_pos h2]
  congr 1

/-- A read of work RAM has no side effect. -/
theorem busRead_ram {addr : Word} (h : addr.toNat < 0x2000) (s : State) :
    busRead addr s = (s.ram.read (addr.toNat % 2048), s) := by
  simp [busRead, busTarget_ram h]

/-- A read of program ROM has no side effect. -/
theorem busRead_prg {addr : Word} (h : 0x8000 ≤ addr.toNat) (s : State) :
    busRead addr s = (s.cart.prg.read (mapPrg s.cart.prgSize addr), s) := by
  simp [busRead, busTarget_prg h]

/-- A write to work RAM writes its cell and nothing else. -/
theorem busWrite_ram {addr : Word} (h : addr.toNat < 0x2000) (v : Byte) (s : State) :
    busWrite addr v s = s.setRam (s.ram.write (addr.toNat % 2048) v) := by
  simp [busWrite, busTarget_ram h]

/-- A write to program ROM is dropped (R68). -/
theorem busWrite_prg {addr : Word} (h : 0x8000 ≤ addr.toNat) (v : Byte) (s : State) : busWrite addr v s = s := by
  simp [busWrite, busTarget_prg h]

/-- The reads that can change the state are those of PPU ports 2, 4 and 7 and of the controller port (R60); a write-only
port returns the I/O latch and so leaves it (R240). Every other read leaves the state as it was. -/
theorem busRead_noEffect {addr : Word} (s : State)
    (h : busTarget addr ≠ .port 2 ∧ busTarget addr ≠ .port 4 ∧ busTarget addr ≠ .port 7 ∧ busTarget addr ≠ .joy) :
    (busRead addr s).2 = s := by
  obtain ⟨h2, h4, h7, hj⟩ := h
  cases ht : busTarget addr with
  | port k =>
    rw [ht] at h2 h4 h7
    have hk : (s.ppu.portRead s.cart k).2 = s.ppu := by
      revert h2 h4 h7
      match k with
      | 0 | 1 | 3 | 5 | 6 => intros; rfl
      | 2 | 4 | 7 => simp
    simp [busRead, ht, hk, State.setPpu]
  | joy => exact absurd ht hj
  | _ => simp [busRead, ht]

/-- What a port read may change: VBlank, the toggle, `v`, the read buffer and the I/O latch (46_ppu_registers.md R258). -/
theorem portRead_changes (c : Cartridge) (k : BitVec 3) (p : Ppu) :
    (p.portRead c k).2 =
      { p with
        vblank := (p.portRead c k).2.vblank
        w := (p.portRead c k).2.w
        v := (p.portRead c k).2.v
        readBuffer := (p.portRead c k).2.readBuffer
        ioLatch := (p.portRead c k).2.ioLatch } := by
  unfold Ppu.portRead
  split <;> rfl

/-- Everything a bus read can change: the PPU's port state and the joypad. -/
theorem busRead_changes (addr : Word) (s : State) :
    (busRead addr s).2 = { s with ppu := (busRead addr s).2.ppu, joy := (busRead addr s).2.joy } := by
  unfold busRead; split <;> rfl

/-- A bus read leaves every field but the PPU and the joypad. -/
@[simp] theorem busRead_fields (addr : Word) (s : State) :
    (busRead addr s).2.a = s.a ∧ (busRead addr s).2.x = s.x ∧ (busRead addr s).2.y = s.y ∧
    (busRead addr s).2.sp = s.sp ∧ (busRead addr s).2.pc = s.pc ∧ (busRead addr s).2.p = s.p ∧
    (busRead addr s).2.nmiPending = s.nmiPending ∧ (busRead addr s).2.cyc = s.cyc ∧
    (busRead addr s).2.fault = s.fault ∧ (busRead addr s).2.ram = s.ram ∧ (busRead addr s).2.cart = s.cart ∧
    (busRead addr s).2.clk = s.clk ∧ (busRead addr s).2.params = s.params := by
  rw [busRead_changes]; simp

/-- A bus read leaves the PPU's memories, its raster and its rendering state. -/
theorem busRead_ppu (addr : Word) (s : State) :
    (busRead addr s).2.ppu =
      { s.ppu with
        vblank := (busRead addr s).2.ppu.vblank
        w := (busRead addr s).2.ppu.w
        v := (busRead addr s).2.ppu.v
        readBuffer := (busRead addr s).2.ppu.readBuffer
        ioLatch := (busRead addr s).2.ppu.ioLatch } := by
  unfold busRead
  split
  case h_2 => exact portRead_changes _ _ _
  all_goals rfl

/-- The DMA copy changes OAM, and through its reads what reads change. -/
theorem oamDmaCopy_fields (page : Byte) (n i : Nat) (s : State) :
    (oamDmaCopy page n i s).a = s.a ∧ (oamDmaCopy page n i s).x = s.x ∧ (oamDmaCopy page n i s).y = s.y ∧
    (oamDmaCopy page n i s).sp = s.sp ∧ (oamDmaCopy page n i s).pc = s.pc ∧ (oamDmaCopy page n i s).p = s.p ∧
    (oamDmaCopy page n i s).nmiPending = s.nmiPending ∧ (oamDmaCopy page n i s).cyc = s.cyc ∧
    (oamDmaCopy page n i s).fault = s.fault ∧ (oamDmaCopy page n i s).ram = s.ram ∧
    (oamDmaCopy page n i s).cart = s.cart ∧ (oamDmaCopy page n i s).clk = s.clk ∧
    (oamDmaCopy page n i s).params = s.params := by
  induction n generalizing i s with
  | zero => simp [oamDmaCopy]
  | succ n ih => rw [oamDmaCopy]; simpa [oamDmaPut] using ih (i + 1) (oamDmaPut i (busRead (page ++ BitVec.ofNat 8 i) s).1 (busRead (page ++ BitVec.ofNat 8 i) s).2)

/-- A port write leaves the CPU, RAM, the joypad and the clock. -/
theorem portWrite_fields (k : BitVec 3) (v : Byte) (s : State) :
    (portWrite k v s).a = s.a ∧ (portWrite k v s).x = s.x ∧ (portWrite k v s).y = s.y ∧
    (portWrite k v s).sp = s.sp ∧ (portWrite k v s).pc = s.pc ∧ (portWrite k v s).p = s.p ∧
    (portWrite k v s).nmiPending = s.nmiPending ∧ (portWrite k v s).cyc = s.cyc ∧
    (portWrite k v s).fault = s.fault ∧ (portWrite k v s).ram = s.ram ∧ (portWrite k v s).joy = s.joy ∧
    (portWrite k v s).clk = s.clk ∧ (portWrite k v s).params = s.params := by
  unfold portWrite
  simp only []
  split <;> simp [writeData, ppuWrite]

/-- A bus write leaves A, X, Y, S, PC, P, the pending NMI, the fault latch, the clock and the parameters. -/
@[simp] theorem busWrite_fields (addr : Word) (v : Byte) (s : State) :
    (busWrite addr v s).a = s.a ∧ (busWrite addr v s).x = s.x ∧ (busWrite addr v s).y = s.y ∧
    (busWrite addr v s).sp = s.sp ∧ (busWrite addr v s).pc = s.pc ∧ (busWrite addr v s).p = s.p ∧
    (busWrite addr v s).nmiPending = s.nmiPending ∧ (busWrite addr v s).fault = s.fault ∧
    (busWrite addr v s).clk = s.clk ∧ (busWrite addr v s).params = s.params := by
  unfold busWrite
  split <;> simp [portWrite_fields, oamDma, oamDmaCopy_fields]

/-- The cycles a bus write adds: the DMA's, at 0x4014 only (R84). -/
theorem busWrite_cyc (addr : Word) (v : Byte) (s : State) :
    (busWrite addr v s).cyc = s.cyc + if addr = 0x4014 then 513 else 0 := by
  have key : busTarget addr = .dma ↔ addr = 0x4014 := by
    constructor
    · intro h; unfold busTarget at h; split_ifs at h; assumption
    · rintro rfl; decide
  by_cases h : addr = 0x4014
  · rw [if_pos h, busWrite, key.mpr h]; simp [oamDma, oamDmaCopy_fields, Config.oamDmaCycles]
  · rw [if_neg h, busWrite]
    split <;> simp_all [portWrite_fields]

end Sys2Proof.Machine
end

