-- ==== Sys2Proof/Laws/Flags.lean ====
section
/-! SUPPORT. The laws of bit fields, of the flags of P, and of the ALU's results. -/

namespace Sys2Proof.Machine

theorem getLsbD_putField {n len : Nat} (x : BitVec n) (lo : Nat) (v : BitVec len) (i : Nat) :
    (putField x lo v).getLsbD i =
      if lo ≤ i ∧ i < lo + len ∧ i < n then v.getLsbD (i - lo) else x.getLsbD i := by
  by_cases hn : i < n
  · by_cases h1 : lo ≤ i
    · by_cases h2 : i < lo + len
      · have h3 : i - lo < len := by omega
        simp [putField, hn, h1, h2, h3, Nat.not_lt.mpr h1]
      · have h3 : ¬ i - lo < len := by omega
        simp [putField, hn, h1, h2, h3, BitVec.getLsbD_of_ge v (i - lo) (by omega)]
    · simp [putField, hn, h1, show i < lo by omega]
  · simp [hn, BitVec.getLsbD_of_ge _ i (Nat.le_of_not_lt hn)]

theorem getLsbD_field {n : Nat} (x : BitVec n) (lo len i : Nat) :
    (field x lo len).getLsbD i = (decide (i < len) && x.getLsbD (lo + i)) := by
  simp [field]

/-- A field that was put is read back. -/
theorem field_putField_same {n len : Nat} (x : BitVec n) (lo : Nat) (v : BitVec len) (h : lo + len ≤ n) :
    field (putField x lo v) lo len = v := by
  apply BitVec.eq_of_getLsbD_eq
  intro i hi
  rw [getLsbD_field, getLsbD_putField, if_pos ⟨by omega, by omega, by omega⟩]
  simp [hi]

/-- A field that does not meet the one that was put is unchanged. -/
theorem field_putField_other {n len : Nat} (x : BitVec n) (lo : Nat) (v : BitVec len) (lo' len' : Nat)
    (h : lo' + len' ≤ lo ∨ lo + len ≤ lo') : field (putField x lo v) lo' len' = field x lo' len' := by
  apply BitVec.eq_of_getLsbD_eq
  intro i hi
  rw [getLsbD_field, getLsbD_field, getLsbD_putField, if_neg (by omega)]

/-- Setting a flag changes that flag and no other. -/
theorem flag_setFlag (j k : Nat) (b : Bool) (p : Byte) (hk : k < 8) :
    flag j (setFlag k b p) = if j = k then b else flag j p := by
  rw [flag, setFlag, getLsbD_putField]
  by_cases h : j = k
  · subst h; simp [hk, bit1]
  · rw [if_neg (by omega), if_neg h]; rfl

/-- `SetZN` gives Z and N, and leaves every other flag. -/
theorem flag_setZN (j : Nat) (v p : Byte) :
    flag j (setZN v p) = if j = bitN then v.getLsbD 7 else if j = bitZ then v == 0 else flag j p := by
  rw [setZN, flag_setFlag _ _ _ _ (by decide), flag_setFlag _ _ _ _ (by decide)]

/-- What the adder leaves in each flag. -/
theorem flag_adc (j : Nat) (a m p : Byte) :
    flag j (adc a m p).2 =
      if j = bitN then (adc a m p).1.getLsbD 7
      else if j = bitZ then (adc a m p).1 == 0
      else if j = bitV then (~~~(a ^^^ m) &&& (a ^^^ (adc a m p).1) &&& 0x80) != 0
      else if j = bitC then decide (a.toNat + m.toNat + (flag bitC p).toNat > 0xFF)
      else flag j p := by
  simp only [adc, flag_setZN, flag_setFlag _ _ _ _ (show bitV < 8 by decide), flag_setFlag _ _ _ _ (show bitC < 8 by decide)]

/-- What a comparison leaves in each flag. -/
theorem flag_compareP (j : Nat) (r m p : Byte) :
    flag j (compareP r m p) =
      if j = bitN then (r - m).getLsbD 7
      else if j = bitZ then r == m
      else if j = bitC then decide (m.toNat ≤ r.toNat)
      else flag j p := by
  simp only [compareP, flag_setFlag _ _ _ _ (show bitN < 8 by decide), flag_setFlag _ _ _ _ (show bitZ < 8 by decide),
    flag_setFlag _ _ _ _ (show bitC < 8 by decide)]

/-- What BIT leaves in each flag. -/
theorem flag_bitP (j : Nat) (a m p : Byte) :
    flag j (bitP a m p) =
      if j = bitV then m.getLsbD 6
      else if j = bitN then m.getLsbD 7
      else if j = bitZ then a &&& m == 0
      else flag j p := by
  simp only [bitP, flag_setFlag _ _ _ _ (show bitN < 8 by decide), flag_setFlag _ _ _ _ (show bitZ < 8 by decide),
    flag_setFlag _ _ _ _ (show bitV < 8 by decide)]

/-- What a shift or rotate leaves in each flag: C takes `c`, Z and N follow the result. -/
theorem flag_shift (j : Nat) (r p : Byte) (c : Bool) :
    flag j (setZN r (setFlag bitC c p)) =
      if j = bitN then r.getLsbD 7 else if j = bitZ then r == 0 else if j = bitC then c else flag j p := by
  simp only [flag_setZN, flag_setFlag _ _ _ _ (show bitC < 8 by decide)]

/-- The flags of a pulled P: B = 0, U = 1, the others from the byte. -/
theorem flag_pulledP (j : Nat) (b : Byte) (hj : j < 8) :
    flag j (pulledP b) = if j = bitB then false else if j = bitU then true else flag j b := by
  unfold flag pulledP
  match j, hj with
  | 0, _ | 1, _ | 2, _ | 3, _ | 4, _ | 5, _ | 6, _ | 7, _ => simp [bitB, bitU]

theorem statusOk_setFlag {k : Nat} {b : Bool} {p : Byte} (h : statusOk p = true) (hk : k < 8) (h4 : k ≠ bitB)
    (h5 : k ≠ bitU) : statusOk (setFlag k b p) = true := by
  simpa [statusOk, flag_setFlag _ _ _ _ hk, Ne.symm h4, Ne.symm h5] using h

theorem statusOk_setZN {v p : Byte} (h : statusOk p = true) : statusOk (setZN v p) = true :=
  statusOk_setFlag (statusOk_setFlag h (by decide) (by decide) (by decide)) (by decide) (by decide) (by decide)

theorem statusOk_pulledP (b : Byte) : statusOk (pulledP b) = true := by
  rw [statusOk, flag_pulledP _ _ (by decide), flag_pulledP _ _ (by decide)]; rfl

theorem statusOk_adc {a m p : Byte} (h : statusOk p = true) : statusOk (adc a m p).2 = true := by
  simp only [statusOk, flag_adc] at h ⊢; simpa [bitB, bitU, bitC, bitZ, bitN, bitV] using h

theorem statusOk_compareP {a m p : Byte} (h : statusOk p = true) : statusOk (compareP a m p) = true := by
  simp only [statusOk, flag_compareP] at h ⊢; simpa [bitB, bitU, bitC, bitZ, bitN, bitV] using h

theorem statusOk_bitP {a m p : Byte} (h : statusOk p = true) : statusOk (bitP a m p) = true := by
  simp only [statusOk, flag_bitP] at h ⊢; simpa [bitB, bitU, bitC, bitZ, bitN, bitV] using h

theorem statusOk_shift {r p : Byte} {c : Bool} (h : statusOk p = true) :
    statusOk (setZN r (setFlag bitC c p)) = true :=
  statusOk_setZN (statusOk_setFlag h (by decide) (by decide) (by decide))

end Sys2Proof.Machine
end

