-- ==== Sys2Proof/Laws/Ops.lean ====
section
/-! SUPPORT. What the stack operations, the pointer reads, the addressing modes and the handler entry come to: the stack
and the zero page are work RAM, so none of them has a side effect on a device. -/

namespace Sys2Proof.Machine

/-- The RAM cell of a stack byte (spec/10_state.md R22). -/
def stackCell (sp : Byte) : Nat := 256 + sp.toNat

theorem stackCell_lt (sp : Byte) : stackCell sp < 2048 := by have := sp.isLt; unfold stackCell; omega

theorem stackAddr_toNat (sp : Byte) : (stackAddr sp).toNat = stackCell sp := by
  have h : sp.toNat < 2 ^ 8 := sp.isLt
  have e := Nat.two_pow_add_eq_or_of_lt h 1
  have : (stackAddr sp).toNat = 256 ||| sp.toNat := by
    simp [stackAddr, zext16, BitVec.toNat_or, Nat.mod_eq_of_lt (show sp.toNat < 65536 by omega)]
  rw [this, stackCell]; exact e.symm

/-- `Push` writes one RAM cell and decrements S. -/
theorem push_eq (v : Byte) (s : State) :
    push v s = (s.setRam (s.ram.write (stackCell s.sp) v)).setSp (s.sp - 1) := by
  have hc := stackCell_lt s.sp
  have h : (stackAddr s.sp).toNat < 0x2000 := by rw [stackAddr_toNat]; omega
  rw [push, busWrite_ram h, stackAddr_toNat, Nat.mod_eq_of_lt hc]
  simp

/-- `Pull` reads one RAM cell and increments S. -/
theorem pull_eq (s : State) : pull s = (s.ram.read (stackCell (s.sp + 1)), s.setSp (s.sp + 1)) := by
  have hc := stackCell_lt (s.sp + 1)
  have h : (stackAddr (s.sp + 1)).toNat < 0x2000 := by rw [stackAddr_toNat]; omega
  simp only [pull, State.setSp_fields]
  rw [busRead_ram h, stackAddr_toNat, Nat.mod_eq_of_lt hc, (State.setSp_fields _ _).2.2.2.2.2.2.2.2.2.1]

/-- Pushing an address writes two RAM cells, the high byte in the higher one, and takes 2 from S. -/
theorem pushWord_eq (w : Word) (s : State) :
    pushWord w s =
      (s.setRam ((s.ram.write (stackCell s.sp) (hiByte w)).write (stackCell (s.sp - 1)) (loByte w))).setSp (s.sp - 2) := by
  simp only [pushWord, push_eq, State.setRam_fields, State.setSp_fields]
  simp only [State.setRam, State.setSp, BitVec.sub_sub]
  rfl

/-- Pulling an address reads two RAM cells, low byte first, and adds 2 to S. -/
theorem pullWord_eq (s : State) :
    pullWord s =
      (word (s.ram.read (stackCell (s.sp + 1))) (s.ram.read (stackCell (s.sp + 2))), s.setSp (s.sp + 2)) := by
  simp only [pullWord, pull_eq, State.setSp_fields]
  simp only [State.setSp, BitVec.add_assoc]
  rfl

/-- A vector read reads the cartridge and changes nothing. -/
theorem memRead16_prg {addr : Word} (h : 0x8000 ≤ addr.toNat) (h' : addr.toNat < 0xFFFF) (s : State) :
    memRead16 addr s = (word (s.cart.prg.read (mapPrg s.cart.prgSize addr))
      (s.cart.prg.read (mapPrg s.cart.prgSize (addr + 1))), s) := by
  have h1 : 0x8000 ≤ (addr + 1).toNat := by rw [BitVec.toNat_add]; simp; omega
  simp only [memRead16, readPair, busRead_prg h, busRead_prg h1]

/-- A zero-page pointer read reads two RAM cells, wrapping in the page, and changes nothing. -/
theorem memRead16zp_eq (z : Byte) (s : State) :
    memRead16zp z s = (word (s.ram.read z.toNat) (s.ram.read (z + 1).toNat), s) := by
  have hz : ∀ b : Byte, (zext16 b).toNat = b.toNat := fun b => by
    have hb : b.toNat < 256 := b.isLt
    simp [zext16]
    omega
  have hr : ∀ b : Byte, busRead (zext16 b) s = (s.ram.read b.toNat, s) := fun b => by
    have hb : b.toNat < 256 := b.isLt
    rw [busRead_ram (by rw [hz]; omega), hz, Nat.mod_eq_of_lt (by omega)]
  simp only [memRead16zp, readPair, hr]

/-- Finding an effective address changes nothing. -/
@[simp] theorem resolve_state (o : MemOperand) (s : State) : (resolve o s).2 = s := by
  cases o <;> simp [resolve, memRead16zp_eq]

/-- Entering a handler, whole (60_exceptions.md R348). -/
theorem enterHandler_eq {vector : Word} (h : 0x8000 ≤ vector.toNat) (h' : vector.toNat < 0xFFFF) (ret : Word)
    (image : Byte) (s : State) :
    enterHandler ret image vector s =
      { s with
        ram := ((s.ram.write (stackCell s.sp) (hiByte ret)).write (stackCell (s.sp - 1)) (loByte ret)).write
          (stackCell (s.sp - 2)) image
        sp := s.sp - 3
        p := setFlag bitI true s.p
        pc := word (s.cart.prg.read (mapPrg s.cart.prgSize vector))
          (s.cart.prg.read (mapPrg s.cart.prgSize (vector + 1))) } := by
  simp only [enterHandler, pushWord_eq, push_eq, memRead16_prg h h', State.setRam_fields, State.setSp_fields,
    State.setP_fields]
  simp only [State.setRam, State.setSp, State.setP, State.setPc, BitVec.sub_sub]
  rfl

/-- Returning from a handler, whole (60_exceptions.md R349). -/
theorem returnFromHandler_eq (s : State) :
    returnFromHandler s =
      { s with
        p := pulledP (s.ram.read (stackCell (s.sp + 1)))
        pc := word (s.ram.read (stackCell (s.sp + 2))) (s.ram.read (stackCell (s.sp + 3)))
        sp := s.sp + 3 } := by
  simp only [returnFromHandler, pull_eq, pullWord_eq, State.setSp_fields, State.setP_fields]
  simp only [State.setSp, State.setP, State.setPc, BitVec.add_assoc]
  rfl

end Sys2Proof.Machine
end

