-- ==== Sys2Proof/Laws/Ppu.lean ====
section
/-! SUPPORT. What one dot leaves alone: the PPU's port state and its memories (spec/46_ppu_registers.md R258 from the other
side), and how the raster counters move (47_ppu_pipeline.md R272). -/

namespace Sys2Proof.Machine

/-- The state the CPU's ports own, which no dot writes: latches, OAM, `t`, fine X, the toggle, the read buffer, the
memories. -/
def Ppu.portOwned (p : Ppu) :
    Byte × Byte × Byte × Memory 8 × BitVec 15 × BitVec 3 × Bool × Byte × Byte × Memory 8 × Memory 6 :=
  (p.ctrl, p.mask, p.oamAddr, p.oam, p.t, p.x, p.w, p.readBuffer, p.ioLatch, p.ntRam, p.pal)

/-- The raster position (R40). -/
def Ppu.raster (p : Ppu) : Nat × Nat × Nat := (p.scanline, p.dot, p.frame)

/-- `q` has the port state and the raster position of `p`. -/
def Ppu.SameOutside (q p : Ppu) : Prop := q.portOwned = p.portOwned ∧ q.raster = p.raster

theorem Ppu.SameOutside.refl (p : Ppu) : p.SameOutside p := ⟨rfl, rfl⟩

theorem Ppu.SameOutside.trans {r q p : Ppu} (h : r.SameOutside q) (k : q.SameOutside p) : r.SameOutside p :=
  ⟨h.1.trans k.1, h.2.trans k.2⟩

/-! One lemma for each sub-step. -/

theorem setV_same (v : BitVec 15) (p : Ppu) : (p.setV v).SameOutside p := ⟨rfl, rfl⟩

theorem fetchSlot_same (c : Cartridge) (d : Nat) (p : Ppu) : (p.fetchSlot c d).SameOutside p := by
  unfold Ppu.fetchSlot; split <;> exact ⟨rfl, rfl⟩

theorem shiftStep_same (d : Nat) (p : Ppu) : (p.shiftStep d).SameOutside p := by
  unfold Ppu.shiftStep; split <;> exact ⟨rfl, rfl⟩

theorem reloadStep_same (d : Nat) (p : Ppu) : (p.reloadStep d).SameOutside p := by
  unfold Ppu.reloadStep; split <;> exact ⟨rfl, rfl⟩

theorem fetchStep_same (c : Cartridge) (d : Nat) (p : Ppu) : (p.fetchStep c d).SameOutside p := by
  unfold Ppu.fetchStep; split
  · exact fetchSlot_same c d p
  · exact .refl p

theorem incYStep_same (d : Nat) (p : Ppu) : (p.incYStep d).SameOutside p := by
  unfold Ppu.incYStep; split <;> exact ⟨rfl, rfl⟩

theorem copyHorizStep_same (d : Nat) (p : Ppu) : (p.copyHorizStep d).SameOutside p := by
  unfold Ppu.copyHorizStep; split <;> exact ⟨rfl, rfl⟩

theorem copyVertStep_same (s d : Nat) (p : Ppu) : (p.copyVertStep s d).SameOutside p := by
  unfold Ppu.copyVertStep; split <;> exact ⟨rfl, rfl⟩

theorem backgroundDot_same (c : Cartridge) (s d : Nat) (p : Ppu) : (p.backgroundDot c s d).SameOutside p :=
  (copyVertStep_same s d _).trans ((copyHorizStep_same d _).trans ((incYStep_same d _).trans
    ((fetchStep_same c d _).trans ((reloadStep_same d _).trans (shiftStep_same d p)))))

theorem fetchSprites_same (c : Cartridge) (s k i : Nat) (p : Ppu) : (Ppu.fetchSprites c s k i p).SameOutside p := by
  induction k generalizing i p with
  | zero => exact .refl p
  | succ k ih => exact (ih (i + 1) (p.fetchSprite c s i)).trans ⟨rfl, rfl⟩

theorem evaluateSprites_same (s : Nat) (p : Ppu) : (p.evaluateSprites s).SameOutside p := ⟨rfl, rfl⟩

theorem spriteLineSetup_same (c : Cartridge) (s : Nat) (p : Ppu) : (p.spriteLineSetup c s).SameOutside p := by
  unfold Ppu.spriteLineSetup
  split
  · exact (fetchSprites_same c s _ 0 (p.evaluateSprites s)).trans (evaluateSprites_same s p)
  · split <;> exact ⟨rfl, rfl⟩

theorem clearStep_same (s d : Nat) (p : Ppu) : (p.clearStep s d).SameOutside p := by
  unfold Ppu.clearStep; split <;> exact ⟨rfl, rfl⟩

theorem backgroundStep_same (c : Cartridge) (s d : Nat) (p : Ppu) : (p.backgroundStep c s d).SameOutside p := by
  unfold Ppu.backgroundStep; split
  · exact backgroundDot_same c s d p
  · exact .refl p

theorem spriteStep_same (c : Cartridge) (s d : Nat) (p : Ppu) : (p.spriteStep c s d).SameOutside p := by
  unfold Ppu.spriteStep; split
  · exact spriteLineSetup_same c s p
  · exact .refl p

theorem outputStep_same (s d : Nat) (p : Ppu) : (p.outputStep s d).SameOutside p := by
  unfold Ppu.outputStep; split <;> exact ⟨rfl, rfl⟩

theorem vblankStep_same (s d : Nat) (p : Ppu) : (p.vblankStep s d).SameOutside p := by
  unfold Ppu.vblankStep; split <;> exact ⟨rfl, rfl⟩

/-- The work of a dot leaves the ports' state and the raster position. -/
theorem dotWork_same (c : Cartridge) (s d : Nat) (p : Ppu) : (p.dotWork c s d).SameOutside p :=
  (vblankStep_same s d _).trans ((outputStep_same s d _).trans ((spriteStep_same c s d _).trans
    ((backgroundStep_same c s d _).trans (clearStep_same s d p))))

theorem setRaster_owned (a b f : Nat) (p : Ppu) : (p.setRaster a b f).portOwned = p.portOwned := rfl

theorem advanceCounters_owned (p : Ppu) : p.advanceCounters.portOwned = p.portOwned := by
  unfold Ppu.advanceCounters; split
  · split <;> rfl
  · rfl

/-- A dot leaves the ports' state. -/
theorem tick_owned (c : Cartridge) (p : Ppu) : (p.tick c).portOwned = p.portOwned :=
  (advanceCounters_owned _).trans (dotWork_same c p.scanline p.dot p).1

/-- Any number of dots leaves the ports' state. -/
theorem ticks_owned (c : Cartridge) (n : Nat) (p : Ppu) : (Ppu.ticks c n p).portOwned = p.portOwned := by
  induction n generalizing p with
  | zero => rfl
  | succ n ih => exact (ih (p.tick c)).trans (tick_owned c p)

/-- How the counters advance (R272). -/
theorem advanceCounters_raster (p : Ppu) :
    p.advanceCounters.raster =
      if p.dot + 1 = 341 then
        if p.scanline + 1 = 262 then (0, 0, p.frame + 1) else (p.scanline + 1, 0, p.frame)
      else (p.scanline, p.dot + 1, p.frame) := by
  simp only [Ppu.advanceCounters, Config.dotsPerLine, Config.linesPerFrame]
  by_cases h : p.dot + 1 = 341
  · by_cases k : p.scanline + 1 = 262
    · rw [if_pos h, if_pos h, if_pos k, if_pos k]; rfl
    · rw [if_pos h, if_pos h, if_neg k, if_neg k]; rfl
  · rw [if_neg h, if_neg h]; rfl

/-- Where a dot moves the raster: only the counters decide (R272). -/
theorem tick_raster (c : Cartridge) (p : Ppu) :
    (p.tick c).raster =
      if p.dot + 1 = 341 then
        if p.scanline + 1 = 262 then (0, 0, p.frame + 1) else (p.scanline + 1, 0, p.frame)
      else (p.scanline, p.dot + 1, p.frame) := by
  have h := (dotWork_same c p.scanline p.dot p).2
  unfold Ppu.tick
  rw [advanceCounters_raster]
  generalize p.dotWork c p.scanline p.dot = q at h ⊢
  simp only [Ppu.raster, Prod.mk.injEq] at h
  obtain ⟨h1, h2, h3⟩ := h
  rw [h1, h2, h3]

end Sys2Proof.Machine
end

