-- ==== Sys2Proof/Laws/Exec.lean ====
section
/-! SUPPORT. The shapes of the meanings with the effective address found, and what a step is, case by case. -/

namespace Sys2Proof.Machine

/-- The shape that reads its operand, with the address found. -/
theorem readMem_eq (base : Nat) (f : Byte → State → State) (o : MemOperand) (s : State) :
    readMem base f o s =
      .next (advance (memLength o) (f (busRead (resolve o s).1.addr s).1
        ((busRead (resolve o s).1.addr s).2.setCyc (base + pagePenalty (resolve o s).1)))) := by
  simp [readMem]

/-- The shape that stores, with the address found. -/
theorem storeMem_eq (base : Nat) (v : Byte) (o : MemOperand) (s : State) :
    storeMem base v o s =
      .next (advance (memLength o) (busWrite (resolve o s).1.addr v (s.setCyc base))) := by
  simp [storeMem]

/-- The read-modify-write shape, with the address found. -/
theorem modifyMem_eq (base : Nat) (f : Byte → Byte → Byte × Byte) (o : MemOperand) (s : State) :
    modifyMem base f o s =
      .next (advance (memLength o)
        ((busWrite (resolve o s).1.addr (f (busRead (resolve o s).1.addr s).1 s.p).1
          ((busRead (resolve o s).1.addr s).2.setCyc base)).setP
          (f (busRead (resolve o s).1.addr s).1 s.p).2)) := by
  simp [modifyMem]

/-- A branch completes whether or not it is taken. -/
theorem branchIf_next (c : Bool) (off : Byte) (s : State) : ∃ t, branchIf c off s = .next t := by
  cases c <;> exact ⟨_, rfl⟩

/-- Every instruction completes. -/
theorem exec_next (i : Instr) (s : State) : ∃ t, exec i s = .next t := by
  cases i <;> first | exact ⟨_, rfl⟩ | exact branchIf_next _ _ s

/-- A step is one of: a latched fault reported, an NMI entry, an instruction, an illegal opcode (60_exceptions.md R345). -/
theorem clockStep_cases (s : State) :
    (∃ f, s.fault = some f ∧ clockStep s = .fault f) ∨
    (s.fault = none ∧ s.nmiPending = true ∧ clockStep s = .next (endStep (nmiEntry s))) ∨
    (∃ i s1 t, s.fault = none ∧ s.nmiPending = false ∧ fetch s = (.instr i, s1) ∧ exec i s1 = .next t ∧
      clockStep s = .next (endStep t)) ∨
    (∃ op s1, s.fault = none ∧ s.nmiPending = false ∧ fetch s = (.illegal op, s1) ∧
      clockStep s = .fault (.illegalOpcode s.pc op)) := by
  cases hf : s.fault with
  | some f => exact .inl ⟨f, rfl, by simp [clockStep, hf]⟩
  | none =>
    cases hn : s.nmiPending with
    | true => exact .inr (.inl ⟨rfl, rfl, by simp [clockStep, hf, cpuStep, hn]⟩)
    | false =>
      rcases he : fetch s with ⟨fe, s1⟩
      cases fe with
      | instr i =>
        obtain ⟨t, ht⟩ := exec_next i s1
        exact .inr (.inr (.inl ⟨i, s1, t, rfl, rfl, rfl, ht, by simp [clockStep, hf, cpuStep, hn, he, ht]⟩))
      | illegal op =>
        exact .inr (.inr (.inr ⟨op, s1, rfl, rfl, rfl, by simp [clockStep, hf, cpuStep, hn, he]⟩))

/-- Running the dots changes the PPU and the clock. -/
@[simp] theorem runDots_fields (s : State) :
    (runDots s).a = s.a ∧ (runDots s).x = s.x ∧ (runDots s).y = s.y ∧ (runDots s).sp = s.sp ∧
    (runDots s).pc = s.pc ∧ (runDots s).p = s.p ∧ (runDots s).nmiPending = s.nmiPending ∧ (runDots s).cyc = s.cyc ∧
    (runDots s).fault = s.fault ∧ (runDots s).ram = s.ram ∧ (runDots s).cart = s.cart ∧ (runDots s).joy = s.joy ∧
    (runDots s).params = s.params := by
  simp [runDots]

/-- What follows a CPU step leaves the CPU's registers, RAM, cartridge, joypad, fault latch and parameters. -/
@[simp] theorem endStep_fields (s : State) :
    (endStep s).a = s.a ∧ (endStep s).x = s.x ∧ (endStep s).y = s.y ∧ (endStep s).sp = s.sp ∧
    (endStep s).pc = s.pc ∧ (endStep s).p = s.p ∧ (endStep s).cyc = s.cyc ∧ (endStep s).fault = s.fault ∧
    (endStep s).ram = s.ram ∧ (endStep s).cart = s.cart ∧ (endStep s).joy = s.joy ∧
    (endStep s).clk = (runDots s).clk ∧ (endStep s).params = s.params := by
  unfold endStep nmiHandOver; split <;> simp

/-- The hand-over empties `nmi_out` (49_master_clock.md R328). -/
theorem endStep_nmiOut (s : State) : (endStep s).ppu.nmiOut = false := by
  unfold endStep nmiHandOver
  split
  · simp
  · next h => simpa using h

/-- R335 to the letter: an illegal opcode whose fetch has no read side effect leaves exactly the state before the step
except for `fault`. -/
theorem driverStep_illegal_noEffect (s : State) (op : Byte)
    (hf : s.fault = none) (hn : s.nmiPending = false) (hi : (fetch s).1 = .illegal op)
    (h : busTarget s.pc ≠ .port 2 ∧ busTarget s.pc ≠ .port 4 ∧ busTarget s.pc ≠ .port 7 ∧ busTarget s.pc ≠ .joy) :
    driverStep s = s.setFault (some (.illegalOpcode s.pc op)) := by
  have hs : (fetch s).2 = s := by
    cases ho : opcodeFormat (busRead s.pc s).1 with
    | none => simp [fetch, ho, busRead_noEffect s h]
    | some r => cases r <;> simp [fetch, ho] at hi
  have hc : cpuStep s = .fault (.illegalOpcode s.pc op) := by
    simp only [cpuStep, hn, Bool.false_eq_true, if_false]
    rw [show fetch s = (.illegal op, s) from Prod.ext hi hs]
  simp [driverStep, hf, hc, haltedBy, hs]

end Sys2Proof.Machine
end

