-- ==== Sys2Proof/Laws/PerInstr.lean ====
section
/-! SUPPORT. The statements made for every instruction, one lemma a constructor. Family `EncodedLength`: the bytes an
instruction encodes to are as many as its mode's length, 1 to 3 (spec/30_encoding.md R100). -/

namespace Sys2Proof.Laws.EncodedLength

/-- The encoding has the mode's length, which is 1, 2 or 3. -/
def Statement (i : Instr) : Prop := (encode i).length = i.length ∧ 1 ≤ i.length ∧ i.length ≤ 3

/-- A one-byte instruction: no operand byte. -/
theorem of_length_one {i : Instr} (h : i.operand.bytes.length = 0) (k : i.length = 1) : Statement i :=
  ⟨by simp [encode, h, k], by omega, by omega⟩

/-- A two-byte instruction: one operand byte. -/
theorem of_length_two {i : Instr} (h : i.operand.bytes.length = 1) (k : i.length = 2) : Statement i :=
  ⟨by simp [encode, h, k], by omega, by omega⟩

/-- A three-byte instruction: two operand bytes. -/
theorem of_length_three {i : Instr} (h : i.operand.bytes.length = 2) (k : i.length = 3) : Statement i :=
  ⟨by simp [encode, h, k], by omega, by omega⟩

theorem ldaImm (b : Byte) : Statement (.ldaImm b) := of_length_two rfl rfl
theorem ldaZp (b : Byte) : Statement (.ldaZp b) := of_length_two rfl rfl
theorem ldaZpx (b : Byte) : Statement (.ldaZpx b) := of_length_two rfl rfl
theorem ldaAbs (w : Word) : Statement (.ldaAbs w) := of_length_three rfl rfl
theorem ldaAbx (w : Word) : Statement (.ldaAbx w) := of_length_three rfl rfl
theorem ldaAby (w : Word) : Statement (.ldaAby w) := of_length_three rfl rfl
theorem ldaIzx (b : Byte) : Statement (.ldaIzx b) := of_length_two rfl rfl
theorem ldaIzy (b : Byte) : Statement (.ldaIzy b) := of_length_two rfl rfl
theorem ldxImm (b : Byte) : Statement (.ldxImm b) := of_length_two rfl rfl
theorem ldxZp (b : Byte) : Statement (.ldxZp b) := of_length_two rfl rfl
theorem ldxZpy (b : Byte) : Statement (.ldxZpy b) := of_length_two rfl rfl
theorem ldxAbs (w : Word) : Statement (.ldxAbs w) := of_length_three rfl rfl
theorem ldxAby (w : Word) : Statement (.ldxAby w) := of_length_three rfl rfl
theorem ldyImm (b : Byte) : Statement (.ldyImm b) := of_length_two rfl rfl
theorem ldyZp (b : Byte) : Statement (.ldyZp b) := of_length_two rfl rfl
theorem ldyZpx (b : Byte) : Statement (.ldyZpx b) := of_length_two rfl rfl
theorem ldyAbs (w : Word) : Statement (.ldyAbs w) := of_length_three rfl rfl
theorem ldyAbx (w : Word) : Statement (.ldyAbx w) := of_length_three rfl rfl
theorem staZp (b : Byte) : Statement (.staZp b) := of_length_two rfl rfl
theorem staZpx (b : Byte) : Statement (.staZpx b) := of_length_two rfl rfl
theorem staAbs (w : Word) : Statement (.staAbs w) := of_length_three rfl rfl
theorem staAbx (w : Word) : Statement (.staAbx w) := of_length_three rfl rfl
theorem staAby (w : Word) : Statement (.staAby w) := of_length_three rfl rfl
theorem staIzx (b : Byte) : Statement (.staIzx b) := of_length_two rfl rfl
theorem staIzy (b : Byte) : Statement (.staIzy b) := of_length_two rfl rfl
theorem stxZp (b : Byte) : Statement (.stxZp b) := of_length_two rfl rfl
theorem stxZpy (b : Byte) : Statement (.stxZpy b) := of_length_two rfl rfl
theorem stxAbs (w : Word) : Statement (.stxAbs w) := of_length_three rfl rfl
theorem styZp (b : Byte) : Statement (.styZp b) := of_length_two rfl rfl
theorem styZpx (b : Byte) : Statement (.styZpx b) := of_length_two rfl rfl
theorem styAbs (w : Word) : Statement (.styAbs w) := of_length_three rfl rfl
theorem tax : Statement .tax := of_length_one rfl rfl
theorem tay : Statement .tay := of_length_one rfl rfl
theorem txa : Statement .txa := of_length_one rfl rfl
theorem tya : Statement .tya := of_length_one rfl rfl
theorem tsx : Statement .tsx := of_length_one rfl rfl
theorem txs : Statement .txs := of_length_one rfl rfl
theorem adcImm (b : Byte) : Statement (.adcImm b) := of_length_two rfl rfl
theorem adcZp (b : Byte) : Statement (.adcZp b) := of_length_two rfl rfl
theorem adcZpx (b : Byte) : Statement (.adcZpx b) := of_length_two rfl rfl
theorem adcAbs (w : Word) : Statement (.adcAbs w) := of_length_three rfl rfl
theorem adcAbx (w : Word) : Statement (.adcAbx w) := of_length_three rfl rfl
theorem adcAby (w : Word) : Statement (.adcAby w) := of_length_three rfl rfl
theorem adcIzx (b : Byte) : Statement (.adcIzx b) := of_length_two rfl rfl
theorem adcIzy (b : Byte) : Statement (.adcIzy b) := of_length_two rfl rfl
theorem sbcImm (b : Byte) : Statement (.sbcImm b) := of_length_two rfl rfl
theorem sbcZp (b : Byte) : Statement (.sbcZp b) := of_length_two rfl rfl
theorem sbcZpx (b : Byte) : Statement (.sbcZpx b) := of_length_two rfl rfl
theorem sbcAbs (w : Word) : Statement (.sbcAbs w) := of_length_three rfl rfl
theorem sbcAbx (w : Word) : Statement (.sbcAbx w) := of_length_three rfl rfl
theorem sbcAby (w : Word) : Statement (.sbcAby w) := of_length_three rfl rfl
theorem sbcIzx (b : Byte) : Statement (.sbcIzx b) := of_length_two rfl rfl
theorem sbcIzy (b : Byte) : Statement (.sbcIzy b) := of_length_two rfl rfl
theorem cmpImm (b : Byte) : Statement (.cmpImm b) := of_length_two rfl rfl
theorem cmpZp (b : Byte) : Statement (.cmpZp b) := of_length_two rfl rfl
theorem cmpZpx (b : Byte) : Statement (.cmpZpx b) := of_length_two rfl rfl
theorem cmpAbs (w : Word) : Statement (.cmpAbs w) := of_length_three rfl rfl
theorem cmpAbx (w : Word) : Statement (.cmpAbx w) := of_length_three rfl rfl
theorem cmpAby (w : Word) : Statement (.cmpAby w) := of_length_three rfl rfl
theorem cmpIzx (b : Byte) : Statement (.cmpIzx b) := of_length_two rfl rfl
theorem cmpIzy (b : Byte) : Statement (.cmpIzy b) := of_length_two rfl rfl
theorem cpxImm (b : Byte) : Statement (.cpxImm b) := of_length_two rfl rfl
theorem cpxZp (b : Byte) : Statement (.cpxZp b) := of_length_two rfl rfl
theorem cpxAbs (w : Word) : Statement (.cpxAbs w) := of_length_three rfl rfl
theorem cpyImm (b : Byte) : Statement (.cpyImm b) := of_length_two rfl rfl
theorem cpyZp (b : Byte) : Statement (.cpyZp b) := of_length_two rfl rfl
theorem cpyAbs (w : Word) : Statement (.cpyAbs w) := of_length_three rfl rfl
theorem incZp (b : Byte) : Statement (.incZp b) := of_length_two rfl rfl
theorem incZpx (b : Byte) : Statement (.incZpx b) := of_length_two rfl rfl
theorem incAbs (w : Word) : Statement (.incAbs w) := of_length_three rfl rfl
theorem incAbx (w : Word) : Statement (.incAbx w) := of_length_three rfl rfl
theorem inx : Statement .inx := of_length_one rfl rfl
theorem iny : Statement .iny := of_length_one rfl rfl
theorem decZp (b : Byte) : Statement (.decZp b) := of_length_two rfl rfl
theorem decZpx (b : Byte) : Statement (.decZpx b) := of_length_two rfl rfl
theorem decAbs (w : Word) : Statement (.decAbs w) := of_length_three rfl rfl
theorem decAbx (w : Word) : Statement (.decAbx w) := of_length_three rfl rfl
theorem dex : Statement .dex := of_length_one rfl rfl
theorem dey : Statement .dey := of_length_one rfl rfl
theorem andImm (b : Byte) : Statement (.andImm b) := of_length_two rfl rfl
theorem andZp (b : Byte) : Statement (.andZp b) := of_length_two rfl rfl
theorem andZpx (b : Byte) : Statement (.andZpx b) := of_length_two rfl rfl
theorem andAbs (w : Word) : Statement (.andAbs w) := of_length_three rfl rfl
theorem andAbx (w : Word) : Statement (.andAbx w) := of_length_three rfl rfl
theorem andAby (w : Word) : Statement (.andAby w) := of_length_three rfl rfl
theorem andIzx (b : Byte) : Statement (.andIzx b) := of_length_two rfl rfl
theorem andIzy (b : Byte) : Statement (.andIzy b) := of_length_two rfl rfl
theorem oraImm (b : Byte) : Statement (.oraImm b) := of_length_two rfl rfl
theorem oraZp (b : Byte) : Statement (.oraZp b) := of_length_two rfl rfl
theorem oraZpx (b : Byte) : Statement (.oraZpx b) := of_length_two rfl rfl
theorem oraAbs (w : Word) : Statement (.oraAbs w) := of_length_three rfl rfl
theorem oraAbx (w : Word) : Statement (.oraAbx w) := of_length_three rfl rfl
theorem oraAby (w : Word) : Statement (.oraAby w) := of_length_three rfl rfl
theorem oraIzx (b : Byte) : Statement (.oraIzx b) := of_length_two rfl rfl
theorem oraIzy (b : Byte) : Statement (.oraIzy b) := of_length_two rfl rfl
theorem eorImm (b : Byte) : Statement (.eorImm b) := of_length_two rfl rfl
theorem eorZp (b : Byte) : Statement (.eorZp b) := of_length_two rfl rfl
theorem eorZpx (b : Byte) : Statement (.eorZpx b) := of_length_two rfl rfl
theorem eorAbs (w : Word) : Statement (.eorAbs w) := of_length_three rfl rfl
theorem eorAbx (w : Word) : Statement (.eorAbx w) := of_length_three rfl rfl
theorem eorAby (w : Word) : Statement (.eorAby w) := of_length_three rfl rfl
theorem eorIzx (b : Byte) : Statement (.eorIzx b) := of_length_two rfl rfl
theorem eorIzy (b : Byte) : Statement (.eorIzy b) := of_length_two rfl rfl
theorem bitZp (b : Byte) : Statement (.bitZp b) := of_length_two rfl rfl
theorem bitAbs (w : Word) : Statement (.bitAbs w) := of_length_three rfl rfl
theorem aslAcc : Statement .aslAcc := of_length_one rfl rfl
theorem aslZp (b : Byte) : Statement (.aslZp b) := of_length_two rfl rfl
theorem aslZpx (b : Byte) : Statement (.aslZpx b) := of_length_two rfl rfl
theorem aslAbs (w : Word) : Statement (.aslAbs w) := of_length_three rfl rfl
theorem aslAbx (w : Word) : Statement (.aslAbx w) := of_length_three rfl rfl
theorem lsrAcc : Statement .lsrAcc := of_length_one rfl rfl
theorem lsrZp (b : Byte) : Statement (.lsrZp b) := of_length_two rfl rfl
theorem lsrZpx (b : Byte) : Statement (.lsrZpx b) := of_length_two rfl rfl
theorem lsrAbs (w : Word) : Statement (.lsrAbs w) := of_length_three rfl rfl
theorem lsrAbx (w : Word) : Statement (.lsrAbx w) := of_length_three rfl rfl
theorem rolAcc : Statement .rolAcc := of_length_one rfl rfl
theorem rolZp (b : Byte) : Statement (.rolZp b) := of_length_two rfl rfl
theorem rolZpx (b : Byte) : Statement (.rolZpx b) := of_length_two rfl rfl
theorem rolAbs (w : Word) : Statement (.rolAbs w) := of_length_three rfl rfl
theorem rolAbx (w : Word) : Statement (.rolAbx w) := of_length_three rfl rfl
theorem rorAcc : Statement .rorAcc := of_length_one rfl rfl
theorem rorZp (b : Byte) : Statement (.rorZp b) := of_length_two rfl rfl
theorem rorZpx (b : Byte) : Statement (.rorZpx b) := of_length_two rfl rfl
theorem rorAbs (w : Word) : Statement (.rorAbs w) := of_length_three rfl rfl
theorem rorAbx (w : Word) : Statement (.rorAbx w) := of_length_three rfl rfl
theorem bcc (b : Byte) : Statement (.bcc b) := of_length_two rfl rfl
theorem bcs (b : Byte) : Statement (.bcs b) := of_length_two rfl rfl
theorem beq (b : Byte) : Statement (.beq b) := of_length_two rfl rfl
theorem bne (b : Byte) : Statement (.bne b) := of_length_two rfl rfl
theorem bmi (b : Byte) : Statement (.bmi b) := of_length_two rfl rfl
theorem bpl (b : Byte) : Statement (.bpl b) := of_length_two rfl rfl
theorem bvc (b : Byte) : Statement (.bvc b) := of_length_two rfl rfl
theorem bvs (b : Byte) : Statement (.bvs b) := of_length_two rfl rfl
theorem jmpAbs (w : Word) : Statement (.jmpAbs w) := of_length_three rfl rfl
theorem jmpInd (w : Word) : Statement (.jmpInd w) := of_length_three rfl rfl
theorem jsr (w : Word) : Statement (.jsr w) := of_length_three rfl rfl
theorem rts : Statement .rts := of_length_one rfl rfl
theorem brk : Statement .brk := of_length_one rfl rfl
theorem rti : Statement .rti := of_length_one rfl rfl
theorem pha : Statement .pha := of_length_one rfl rfl
theorem php : Statement .php := of_length_one rfl rfl
theorem pla : Statement .pla := of_length_one rfl rfl
theorem plp : Statement .plp := of_length_one rfl rfl
theorem clc : Statement .clc := of_length_one rfl rfl
theorem sec : Statement .sec := of_length_one rfl rfl
theorem cli : Statement .cli := of_length_one rfl rfl
theorem sei : Statement .sei := of_length_one rfl rfl
theorem cld : Statement .cld := of_length_one rfl rfl
theorem sed : Statement .sed := of_length_one rfl rfl
theorem clv : Statement .clv := of_length_one rfl rfl
theorem nop : Statement .nop := of_length_one rfl rfl

end Sys2Proof.Laws.EncodedLength
end

