-- ==== Sys2Proof/Tests/Slice0.lean ====
section
/-! SUPPORT. The model's own tests. Expected results are those of spec/95_test_vectors.md and of the rules' examples, or
worked out by hand from the rule named; the machine is started as section "Conventions" of that file says. -/

namespace Sys2Proof.Tests
open Sys2Proof Sys2Proof.Machine Sys2Proof.Spec

/-! Well-formedness: a mnemonic takes only the modes of its row (30_encoding.md R117) -/

theorem test_illformed_sta_imm : Line.wf { mnemonic := .sta, operand := .imm 0x00 } = false := by decide

theorem test_illformed_ldx_zpx : Line.wf { mnemonic := .ldx, operand := .zpx 0x10 } = false := by decide

theorem test_illformed_stx_zpx : Line.wf { mnemonic := .stx, operand := .zpx 0x10 } = false := by decide

theorem test_illformed_inc_acc : Line.wf { mnemonic := .inc, operand := .acc } = false := by decide

theorem test_illformed_jmp_zp : Line.wf { mnemonic := .jmp, operand := .zp 0x10 } = false := by decide

theorem test_illformed_bit_imm : Line.wf { mnemonic := .bit, operand := .imm 0x01 } = false := by decide

theorem test_illformed_cpx_abx : Line.wf { mnemonic := .cpx, operand := .abx 0x0200 } = false := by decide

theorem test_illformed_bne_abs : Line.wf { mnemonic := .bne, operand := .abs 0x8000 } = false := by decide

theorem test_illformed_tax_acc : Line.wf { mnemonic := .tax, operand := .acc } = false := by decide

theorem test_illformed_jsr_ind : Line.wf { mnemonic := .jsr, operand := .ind 0x0200 } = false := by decide

theorem test_illformed_sty_abx : Line.wf { mnemonic := .sty, operand := .abx 0x0200 } = false := by decide

theorem test_illformed_asl_imp : Line.wf { mnemonic := .asl, operand := .imp } = false := by decide

theorem test_illformed_lda_rel : Line.wf { mnemonic := .lda, operand := .rel 0x00 } = false := by decide

theorem test_illformed_nop_imm : Line.wf { mnemonic := .nop, operand := .imm 0x00 } = false := by decide

theorem test_illformed_ldy_aby : Line.wf { mnemonic := .ldy, operand := .aby 0x0200 } = false := by decide

theorem test_illformed_dec_izy : Line.wf { mnemonic := .dec, operand := .izy 0x10 } = false := by decide

theorem test_wellformed_lines : [Line.wf { mnemonic := .lda, operand := .imm 0x80 }, Line.wf { mnemonic := .asl, operand := .acc },
    Line.wf { mnemonic := .jmp, operand := .ind 0xFFFC }, Line.wf { mnemonic := .stx, operand := .zpy 0x10 }] =
    [true, true, true, true] := by decide


/-! Decoding: every opcode of 30_encoding.md R116 and R117, with operand bytes 0x12 (and 0x34): the table word of the
bytes, low byte first, reads as the instruction the row names -/

theorem test_decode_loads :
    decodeTableWord 16 0x12A9 = some (.ldaImm 0x12) ∧
    decodeTableWord 16 0x12A5 = some (.ldaZp 0x12) ∧
    decodeTableWord 16 0x12B5 = some (.ldaZpx 0x12) ∧
    decodeTableWord 24 0x3412AD = some (.ldaAbs 0x3412) ∧
    decodeTableWord 24 0x3412BD = some (.ldaAbx 0x3412) ∧
    decodeTableWord 24 0x3412B9 = some (.ldaAby 0x3412) ∧
    decodeTableWord 16 0x12A1 = some (.ldaIzx 0x12) ∧
    decodeTableWord 16 0x12B1 = some (.ldaIzy 0x12) ∧
    decodeTableWord 16 0x12A2 = some (.ldxImm 0x12) ∧
    decodeTableWord 16 0x12A6 = some (.ldxZp 0x12) ∧
    decodeTableWord 16 0x12B6 = some (.ldxZpy 0x12) ∧
    decodeTableWord 24 0x3412AE = some (.ldxAbs 0x3412) ∧
    decodeTableWord 24 0x3412BE = some (.ldxAby 0x3412) ∧
    decodeTableWord 16 0x12A0 = some (.ldyImm 0x12) ∧
    decodeTableWord 16 0x12A4 = some (.ldyZp 0x12) ∧
    decodeTableWord 16 0x12B4 = some (.ldyZpx 0x12) ∧
    decodeTableWord 24 0x3412AC = some (.ldyAbs 0x3412) ∧
    decodeTableWord 24 0x3412BC = some (.ldyAbx 0x3412) := by decide

theorem test_decode_stores :
    decodeTableWord 16 0x1285 = some (.staZp 0x12) ∧
    decodeTableWord 16 0x1295 = some (.staZpx 0x12) ∧
    decodeTableWord 24 0x34128D = some (.staAbs 0x3412) ∧
    decodeTableWord 24 0x34129D = some (.staAbx 0x3412) ∧
    decodeTableWord 24 0x341299 = some (.staAby 0x3412) ∧
    decodeTableWord 16 0x1281 = some (.staIzx 0x12) ∧
    decodeTableWord 16 0x1291 = some (.staIzy 0x12) ∧
    decodeTableWord 16 0x1286 = some (.stxZp 0x12) ∧
    decodeTableWord 16 0x1296 = some (.stxZpy 0x12) ∧
    decodeTableWord 24 0x34128E = some (.stxAbs 0x3412) ∧
    decodeTableWord 16 0x1284 = some (.styZp 0x12) ∧
    decodeTableWord 16 0x1294 = some (.styZpx 0x12) ∧
    decodeTableWord 24 0x34128C = some (.styAbs 0x3412) := by decide

theorem test_decode_transfers :
    decodeTableWord 8 0xAA = some .tax ∧
    decodeTableWord 8 0xA8 = some .tay ∧
    decodeTableWord 8 0x8A = some .txa ∧
    decodeTableWord 8 0x98 = some .tya ∧
    decodeTableWord 8 0xBA = some .tsx ∧
    decodeTableWord 8 0x9A = some .txs := by decide

theorem test_decode_adc_sbc :
    decodeTableWord 16 0x1269 = some (.adcImm 0x12) ∧
    decodeTableWord 16 0x1265 = some (.adcZp 0x12) ∧
    decodeTableWord 16 0x1275 = some (.adcZpx 0x12) ∧
    decodeTableWord 24 0x34126D = some (.adcAbs 0x3412) ∧
    decodeTableWord 24 0x34127D = some (.adcAbx 0x3412) ∧
    decodeTableWord 24 0x341279 = some (.adcAby 0x3412) ∧
    decodeTableWord 16 0x1261 = some (.adcIzx 0x12) ∧
    decodeTableWord 16 0x1271 = some (.adcIzy 0x12) ∧
    decodeTableWord 16 0x12E9 = some (.sbcImm 0x12) ∧
    decodeTableWord 16 0x12E5 = some (.sbcZp 0x12) ∧
    decodeTableWord 16 0x12F5 = some (.sbcZpx 0x12) ∧
    decodeTableWord 24 0x3412ED = some (.sbcAbs 0x3412) ∧
    decodeTableWord 24 0x3412FD = some (.sbcAbx 0x3412) ∧
    decodeTableWord 24 0x3412F9 = some (.sbcAby 0x3412) ∧
    decodeTableWord 16 0x12E1 = some (.sbcIzx 0x12) ∧
    decodeTableWord 16 0x12F1 = some (.sbcIzy 0x12) := by decide

theorem test_decode_compares :
    decodeTableWord 16 0x12C9 = some (.cmpImm 0x12) ∧
    decodeTableWord 16 0x12C5 = some (.cmpZp 0x12) ∧
    decodeTableWord 16 0x12D5 = some (.cmpZpx 0x12) ∧
    decodeTableWord 24 0x3412CD = some (.cmpAbs 0x3412) ∧
    decodeTableWord 24 0x3412DD = some (.cmpAbx 0x3412) ∧
    decodeTableWord 24 0x3412D9 = some (.cmpAby 0x3412) ∧
    decodeTableWord 16 0x12C1 = some (.cmpIzx 0x12) ∧
    decodeTableWord 16 0x12D1 = some (.cmpIzy 0x12) ∧
    decodeTableWord 16 0x12E0 = some (.cpxImm 0x12) ∧
    decodeTableWord 16 0x12E4 = some (.cpxZp 0x12) ∧
    decodeTableWord 24 0x3412EC = some (.cpxAbs 0x3412) ∧
    decodeTableWord 16 0x12C0 = some (.cpyImm 0x12) ∧
    decodeTableWord 16 0x12C4 = some (.cpyZp 0x12) ∧
    decodeTableWord 24 0x3412CC = some (.cpyAbs 0x3412) := by decide

theorem test_decode_steps :
    decodeTableWord 16 0x12E6 = some (.incZp 0x12) ∧
    decodeTableWord 16 0x12F6 = some (.incZpx 0x12) ∧
    decodeTableWord 24 0x3412EE = some (.incAbs 0x3412) ∧
    decodeTableWord 24 0x3412FE = some (.incAbx 0x3412) ∧
    decodeTableWord 8 0xE8 = some .inx ∧
    decodeTableWord 8 0xC8 = some .iny ∧
    decodeTableWord 16 0x12C6 = some (.decZp 0x12) ∧
    decodeTableWord 16 0x12D6 = some (.decZpx 0x12) ∧
    decodeTableWord 24 0x3412CE = some (.decAbs 0x3412) ∧
    decodeTableWord 24 0x3412DE = some (.decAbx 0x3412) ∧
    decodeTableWord 8 0xCA = some .dex ∧
    decodeTableWord 8 0x88 = some .dey := by decide

theorem test_decode_logic :
    decodeTableWord 16 0x1229 = some (.andImm 0x12) ∧
    decodeTableWord 16 0x1225 = some (.andZp 0x12) ∧
    decodeTableWord 16 0x1235 = some (.andZpx 0x12) ∧
    decodeTableWord 24 0x34122D = some (.andAbs 0x3412) ∧
    decodeTableWord 24 0x34123D = some (.andAbx 0x3412) ∧
    decodeTableWord 24 0x341239 = some (.andAby 0x3412) ∧
    decodeTableWord 16 0x1221 = some (.andIzx 0x12) ∧
    decodeTableWord 16 0x1231 = some (.andIzy 0x12) ∧
    decodeTableWord 16 0x1209 = some (.oraImm 0x12) ∧
    decodeTableWord 16 0x1205 = some (.oraZp 0x12) ∧
    decodeTableWord 16 0x1215 = some (.oraZpx 0x12) ∧
    decodeTableWord 24 0x34120D = some (.oraAbs 0x3412) ∧
    decodeTableWord 24 0x34121D = some (.oraAbx 0x3412) ∧
    decodeTableWord 24 0x341219 = some (.oraAby 0x3412) ∧
    decodeTableWord 16 0x1201 = some (.oraIzx 0x12) ∧
    decodeTableWord 16 0x1211 = some (.oraIzy 0x12) ∧
    decodeTableWord 16 0x1249 = some (.eorImm 0x12) ∧
    decodeTableWord 16 0x1245 = some (.eorZp 0x12) ∧
    decodeTableWord 16 0x1255 = some (.eorZpx 0x12) ∧
    decodeTableWord 24 0x34124D = some (.eorAbs 0x3412) ∧
    decodeTableWord 24 0x34125D = some (.eorAbx 0x3412) ∧
    decodeTableWord 24 0x341259 = some (.eorAby 0x3412) ∧
    decodeTableWord 16 0x1241 = some (.eorIzx 0x12) ∧
    decodeTableWord 16 0x1251 = some (.eorIzy 0x12) ∧
    decodeTableWord 16 0x1224 = some (.bitZp 0x12) ∧
    decodeTableWord 24 0x34122C = some (.bitAbs 0x3412) := by decide

theorem test_decode_shifts :
    decodeTableWord 8 0x0A = some .aslAcc ∧
    decodeTableWord 16 0x1206 = some (.aslZp 0x12) ∧
    decodeTableWord 16 0x1216 = some (.aslZpx 0x12) ∧
    decodeTableWord 24 0x34120E = some (.aslAbs 0x3412) ∧
    decodeTableWord 24 0x34121E = some (.aslAbx 0x3412) ∧
    decodeTableWord 8 0x4A = some .lsrAcc ∧
    decodeTableWord 16 0x1246 = some (.lsrZp 0x12) ∧
    decodeTableWord 16 0x1256 = some (.lsrZpx 0x12) ∧
    decodeTableWord 24 0x34124E = some (.lsrAbs 0x3412) ∧
    decodeTableWord 24 0x34125E = some (.lsrAbx 0x3412) ∧
    decodeTableWord 8 0x2A = some .rolAcc ∧
    decodeTableWord 16 0x1226 = some (.rolZp 0x12) ∧
    decodeTableWord 16 0x1236 = some (.rolZpx 0x12) ∧
    decodeTableWord 24 0x34122E = some (.rolAbs 0x3412) ∧
    decodeTableWord 24 0x34123E = some (.rolAbx 0x3412) ∧
    decodeTableWord 8 0x6A = some .rorAcc ∧
    decodeTableWord 16 0x1266 = some (.rorZp 0x12) ∧
    decodeTableWord 16 0x1276 = some (.rorZpx 0x12) ∧
    decodeTableWord 24 0x34126E = some (.rorAbs 0x3412) ∧
    decodeTableWord 24 0x34127E = some (.rorAbx 0x3412) := by decide

theorem test_decode_branches :
    decodeTableWord 16 0x1290 = some (.bcc 0x12) ∧
    decodeTableWord 16 0x12B0 = some (.bcs 0x12) ∧
    decodeTableWord 16 0x12F0 = some (.beq 0x12) ∧
    decodeTableWord 16 0x12D0 = some (.bne 0x12) ∧
    decodeTableWord 16 0x1230 = some (.bmi 0x12) ∧
    decodeTableWord 16 0x1210 = some (.bpl 0x12) ∧
    decodeTableWord 16 0x1250 = some (.bvc 0x12) ∧
    decodeTableWord 16 0x1270 = some (.bvs 0x12) := by decide

theorem test_decode_jumps :
    decodeTableWord 24 0x34124C = some (.jmpAbs 0x3412) ∧
    decodeTableWord 24 0x34126C = some (.jmpInd 0x3412) ∧
    decodeTableWord 24 0x341220 = some (.jsr 0x3412) ∧
    decodeTableWord 8 0x60 = some .rts ∧
    decodeTableWord 8 0x00 = some .brk ∧
    decodeTableWord 8 0x40 = some .rti := by decide

theorem test_decode_stack_flags_nop :
    decodeTableWord 8 0x48 = some .pha ∧
    decodeTableWord 8 0x08 = some .php ∧
    decodeTableWord 8 0x68 = some .pla ∧
    decodeTableWord 8 0x28 = some .plp ∧
    decodeTableWord 8 0x18 = some .clc ∧
    decodeTableWord 8 0x38 = some .sec ∧
    decodeTableWord 8 0x58 = some .cli ∧
    decodeTableWord 8 0x78 = some .sei ∧
    decodeTableWord 8 0xD8 = some .cld ∧
    decodeTableWord 8 0xF8 = some .sed ∧
    decodeTableWord 8 0xB8 = some .clv ∧
    decodeTableWord 8 0xEA = some .nop := by decide

theorem test_decode_refuses :
    decodeTableWord 8 0x02 = none ∧ decodeTableWord 8 0x80 = none ∧ decodeTableWord 8 0xEB = none ∧
    decodeTableWord 8 0xFF = none ∧ decode [0xA9] = .error .truncated ∧ decode [0x4C, 0x00] = .error .truncated ∧
    decode [] = .error .truncated := by decide

/-- Operand bytes past the row's bits are 0. -/
theorem test_decode_short_word : decodeTableWord 8 0xAD = some (.ldaAbs 0x0000) := by decide

theorem test_encode : encode (.ldaAbs 0x2002) = [0xAD, 0x02, 0x20] ∧ encode (.bne 0xFB) = [0xD0, 0xFB] ∧
    encode .clc = [0x18] := by decide

/-! Instructions (95_test_vectors.md section 2) -/

/-- The start state of the vectors: reset, with PC at 0x8000. -/
def start : State := State.reset.setPc 0x8000

/-- The CPU's step over the bytes given, placed where PC points in program ROM. -/
def cpuRun (bytes : List Byte) (s : State) : Option State :=
  match cpuStep (s.setCart { s.cart with prg := Memory.ofListFrom (s.pc.toNat - 0x8000) bytes }) with
  | .next t => some t
  | .fault _ => none
  | .refused _ => none

/-- A, X, Y, S, P, PC, cyc and some cells of work RAM. -/
structure Look where
  a : Byte
  x : Byte
  y : Byte
  sp : Byte
  p : Byte
  pc : Word
  cyc : Nat
  cells : List Byte
deriving DecidableEq, Repr

def look (cells : List Nat) (t : State) : Look := ⟨t.a, t.x, t.y, t.sp, t.p, t.pc, t.cyc, cells.map t.ram.read⟩

theorem test_lda_zero : (cpuRun [0xA9, 0x00] { start with a := 0x55 }).map (look []) =
    some ⟨0x00, 0x00, 0x00, 0xFD, 0x26, 0x8002, 2, []⟩ := by decide +kernel

theorem test_lda_izy_wraps_and_crosses : (cpuRun [0xB1, 0xFF] { start with y := 0x01, ram := [(0x000, 0x02), (0x0FF, 0xFF), (0x300, 0x99)] }).map (look []) =
    some ⟨0x99, 0x00, 0x01, 0xFD, 0xA4, 0x8002, 6, []⟩ := by decide +kernel

theorem test_ldx_zpy_wraps : (cpuRun [0xB6, 0xF0] { start with x := 0x09, y := 0x20 }).map (look []) =
    some ⟨0x00, 0x00, 0x20, 0xFD, 0x26, 0x8002, 4, []⟩ := by decide +kernel

theorem test_ldy_abx_wraps : (cpuRun [0xBC, 0xFF, 0xFF] { start with x := 0x02, ram := [(0x001, 0x42)] }).map (look []) =
    some ⟨0x00, 0x02, 0x42, 0xFD, 0x24, 0x8003, 5, []⟩ := by decide +kernel

theorem test_lda_izx : (cpuRun [0xA1, 0xF0] { start with x := 0x0F, ram := [(0x000, 0x02), (0x0FF, 0x34), (0x234, 0xC3)] }).map (look []) =
    some ⟨0xC3, 0x0F, 0x00, 0xFD, 0xA4, 0x8002, 6, []⟩ := by decide +kernel

theorem test_sta_abx_no_penalty : (cpuRun [0x9D, 0xFF, 0x10] { start with a := 0x11, x := 0x01 }).map (look [0x100]) =
    some ⟨0x11, 0x01, 0x00, 0xFD, 0x24, 0x8003, 5, [0x11]⟩ := by decide +kernel

theorem test_sta_izy : (cpuRun [0x91, 0x10] { start with a := 0x77, y := 0xFF, ram := [(0x010, 0x01), (0x011, 0x02)] }).map (look [0x300]) =
    some ⟨0x77, 0x00, 0xFF, 0xFD, 0x24, 0x8002, 6, [0x77]⟩ := by decide +kernel

theorem test_stx_zpy : (cpuRun [0x96, 0xFF] { start with x := 0x5A, y := 0x02 }).map (look [0x001]) =
    some ⟨0x00, 0x5A, 0x02, 0xFD, 0x24, 0x8002, 4, [0x5A]⟩ := by decide +kernel

theorem test_sty_zp : (cpuRun [0x84, 0x10] { start with y := 0x55 }).map (look [0x010]) =
    some ⟨0x00, 0x00, 0x55, 0xFD, 0x24, 0x8002, 3, [0x55]⟩ := by decide +kernel

theorem test_tax : (cpuRun [0xAA] { start with x := 0x05 }).map (look []) =
    some ⟨0x00, 0x00, 0x00, 0xFD, 0x26, 0x8001, 2, []⟩ := by decide +kernel

theorem test_tay : (cpuRun [0xA8] { start with a := 0x90 }).map (look []) =
    some ⟨0x90, 0x00, 0x90, 0xFD, 0xA4, 0x8001, 2, []⟩ := by decide +kernel

theorem test_txa : (cpuRun [0x8A] { start with x := 0x7F, p := 0x26 }).map (look []) =
    some ⟨0x7F, 0x7F, 0x00, 0xFD, 0x24, 0x8001, 2, []⟩ := by decide +kernel

theorem test_tya : (cpuRun [0x98] { start with y := 0x80 }).map (look []) =
    some ⟨0x80, 0x00, 0x80, 0xFD, 0xA4, 0x8001, 2, []⟩ := by decide +kernel

theorem test_tsx : (cpuRun [0xBA] start).map (look []) =
    some ⟨0x00, 0xFD, 0x00, 0xFD, 0xA4, 0x8001, 2, []⟩ := by decide +kernel

theorem test_txs_no_flags : (cpuRun [0x9A] start).map (look []) =
    some ⟨0x00, 0x00, 0x00, 0x00, 0x24, 0x8001, 2, []⟩ := by decide +kernel

theorem test_adc_signed_overflow : (cpuRun [0x69, 0x50] { start with a := 0x50 }).map (look []) =
    some ⟨0xA0, 0x00, 0x00, 0xFD, 0xE4, 0x8002, 2, []⟩ := by decide +kernel

theorem test_adc_carry_and_overflow : (cpuRun [0x69, 0x90] { start with a := 0xD0 }).map (look []) =
    some ⟨0x60, 0x00, 0x00, 0xFD, 0x65, 0x8002, 2, []⟩ := by decide +kernel

theorem test_adc_decimal_stays_binary : (cpuRun [0x69, 0x09] { start with a := 0x09, p := 0x2C }).map (look []) =
    some ⟨0x12, 0x00, 0x00, 0xFD, 0x2C, 0x8002, 2, []⟩ := by decide +kernel

theorem test_sbc_signed_overflow : (cpuRun [0xE9, 0xB0] { start with a := 0x50, p := 0x25 }).map (look []) =
    some ⟨0xA0, 0x00, 0x00, 0xFD, 0xE4, 0x8002, 2, []⟩ := by decide +kernel

theorem test_sbc_extra_borrow : (cpuRun [0xE9, 0x00] { start with a := 0x80 }).map (look []) =
    some ⟨0x7F, 0x00, 0x00, 0xFD, 0x65, 0x8002, 2, []⟩ := by decide +kernel

theorem test_cmp_less : (cpuRun [0xC9, 0x41] { start with a := 0x40 }).map (look []) =
    some ⟨0x40, 0x00, 0x00, 0xFD, 0xA4, 0x8002, 2, []⟩ := by decide +kernel

theorem test_cmp_equal : (cpuRun [0xC9, 0x40] { start with a := 0x40 }).map (look []) =
    some ⟨0x40, 0x00, 0x00, 0xFD, 0x27, 0x8002, 2, []⟩ := by decide +kernel

theorem test_cpx_zp : (cpuRun [0xE4, 0x10] { start with x := 0xFF, ram := [(0x010, 0x01)] }).map (look []) =
    some ⟨0x00, 0xFF, 0x00, 0xFD, 0xA5, 0x8002, 3, []⟩ := by decide +kernel

theorem test_cpy_imm : (cpuRun [0xC0, 0xFF] start).map (look []) =
    some ⟨0x00, 0x00, 0x00, 0xFD, 0x24, 0x8002, 2, []⟩ := by decide +kernel

theorem test_inc_wraps : (cpuRun [0xE6, 0x10] { start with ram := [(0x010, 0xFF)] }).map (look [0x010]) =
    some ⟨0x00, 0x00, 0x00, 0xFD, 0x26, 0x8002, 5, [0x00]⟩ := by decide +kernel

theorem test_inc_abx : (cpuRun [0xFE, 0x00, 0x02] { start with x := 0x01, ram := [(0x201, 0x7F)] }).map (look [0x201]) =
    some ⟨0x00, 0x01, 0x00, 0xFD, 0xA4, 0x8003, 7, [0x80]⟩ := by decide +kernel

theorem test_dec_wraps : (cpuRun [0xC6, 0x10] start).map (look [0x010]) =
    some ⟨0x00, 0x00, 0x00, 0xFD, 0xA4, 0x8002, 5, [0xFF]⟩ := by decide +kernel

theorem test_inx_wraps : (cpuRun [0xE8] { start with x := 0xFF }).map (look []) =
    some ⟨0x00, 0x00, 0x00, 0xFD, 0x26, 0x8001, 2, []⟩ := by decide +kernel

theorem test_iny : (cpuRun [0xC8] { start with y := 0x7F }).map (look []) =
    some ⟨0x00, 0x00, 0x80, 0xFD, 0xA4, 0x8001, 2, []⟩ := by decide +kernel

theorem test_dex_wraps : (cpuRun [0xCA] start).map (look []) =
    some ⟨0x00, 0xFF, 0x00, 0xFD, 0xA4, 0x8001, 2, []⟩ := by decide +kernel

theorem test_dey : (cpuRun [0x88] { start with y := 0x01 }).map (look []) =
    some ⟨0x00, 0x00, 0x00, 0xFD, 0x26, 0x8001, 2, []⟩ := by decide +kernel

theorem test_and_imm : (cpuRun [0x29, 0x0F] { start with a := 0xF0 }).map (look []) =
    some ⟨0x00, 0x00, 0x00, 0xFD, 0x26, 0x8002, 2, []⟩ := by decide +kernel

theorem test_ora_imm : (cpuRun [0x09, 0x80] { start with a := 0x01 }).map (look []) =
    some ⟨0x81, 0x00, 0x00, 0xFD, 0xA4, 0x8002, 2, []⟩ := by decide +kernel

theorem test_eor_imm : (cpuRun [0x49, 0xFF] { start with a := 0xFF }).map (look []) =
    some ⟨0x00, 0x00, 0x00, 0xFD, 0x26, 0x8002, 2, []⟩ := by decide +kernel

theorem test_bit_from_operand : (cpuRun [0x24, 0x10] { start with ram := [(0x010, 0xC0)] }).map (look []) =
    some ⟨0x00, 0x00, 0x00, 0xFD, 0xE6, 0x8002, 3, []⟩ := by decide +kernel

theorem test_bit_clears : (cpuRun [0x24, 0x10] { start with a := 0x01, p := 0xE4, ram := [(0x010, 0x01)] }).map (look []) =
    some ⟨0x01, 0x00, 0x00, 0xFD, 0x24, 0x8002, 3, []⟩ := by decide +kernel

theorem test_asl_acc : (cpuRun [0x0A] { start with a := 0x80 }).map (look []) =
    some ⟨0x00, 0x00, 0x00, 0xFD, 0x27, 0x8001, 2, []⟩ := by decide +kernel

theorem test_asl_zp : (cpuRun [0x06, 0x10] { start with ram := [(0x010, 0x41)] }).map (look [0x010]) =
    some ⟨0x00, 0x00, 0x00, 0xFD, 0xA4, 0x8002, 5, [0x82]⟩ := by decide +kernel

theorem test_lsr_acc : (cpuRun [0x4A] { start with a := 0x01 }).map (look []) =
    some ⟨0x00, 0x00, 0x00, 0xFD, 0x27, 0x8001, 2, []⟩ := by decide +kernel

theorem test_lsr_abx : (cpuRun [0x5E, 0x00, 0x02] { start with p := 0xA4, ram := [(0x200, 0xFE)] }).map (look [0x200]) =
    some ⟨0x00, 0x00, 0x00, 0xFD, 0x24, 0x8003, 7, [0x7F]⟩ := by decide +kernel

theorem test_rol_acc : (cpuRun [0x2A] { start with a := 0x80, p := 0x25 }).map (look []) =
    some ⟨0x01, 0x00, 0x00, 0xFD, 0x25, 0x8001, 2, []⟩ := by decide +kernel

theorem test_rol_zp : (cpuRun [0x26, 0x10] { start with ram := [(0x010, 0x40)] }).map (look [0x010]) =
    some ⟨0x00, 0x00, 0x00, 0xFD, 0xA4, 0x8002, 5, [0x80]⟩ := by decide +kernel

theorem test_ror_acc : (cpuRun [0x6A] { start with p := 0x25 }).map (look []) =
    some ⟨0x80, 0x00, 0x00, 0xFD, 0xA4, 0x8001, 2, []⟩ := by decide +kernel

theorem test_ror_zp : (cpuRun [0x66, 0x10] { start with p := 0x25, ram := [(0x010, 0x03)] }).map (look [0x010]) =
    some ⟨0x00, 0x00, 0x00, 0xFD, 0xA5, 0x8002, 5, [0x81]⟩ := by decide +kernel

theorem test_bcc_back_crosses : (cpuRun [0x90, 0x80] start).map (look []) =
    some ⟨0x00, 0x00, 0x00, 0xFD, 0x24, 0x7F82, 4, []⟩ := by decide +kernel

theorem test_bcs_back_crosses : (cpuRun [0xB0, 0xFD] { start with p := 0x25, pc := 0x8100 }).map (look []) =
    some ⟨0x00, 0x00, 0x00, 0xFD, 0x25, 0x80FF, 4, []⟩ := by decide +kernel

theorem test_beq_crosses : (cpuRun [0xF0, 0x02] { start with p := 0x26, pc := 0x80FD }).map (look []) =
    some ⟨0x00, 0x00, 0x00, 0xFD, 0x26, 0x8101, 4, []⟩ := by decide +kernel

theorem test_bne_taken : (cpuRun [0xD0, 0x02] start).map (look []) =
    some ⟨0x00, 0x00, 0x00, 0xFD, 0x24, 0x8004, 3, []⟩ := by decide +kernel

theorem test_bne_not_taken : (cpuRun [0xD0, 0x02] { start with p := 0x26 }).map (look []) =
    some ⟨0x00, 0x00, 0x00, 0xFD, 0x26, 0x8002, 2, []⟩ := by decide +kernel

theorem test_bmi_forward : (cpuRun [0x30, 0x7F] { start with p := 0xA4 }).map (look []) =
    some ⟨0x00, 0x00, 0x00, 0xFD, 0xA4, 0x8081, 3, []⟩ := by decide +kernel

theorem test_bpl_itself : (cpuRun [0x10, 0xFE] start).map (look []) =
    some ⟨0x00, 0x00, 0x00, 0xFD, 0x24, 0x8000, 3, []⟩ := by decide +kernel

theorem test_bvc_not_taken : (cpuRun [0x50, 0x10] { start with p := 0x64 }).map (look []) =
    some ⟨0x00, 0x00, 0x00, 0xFD, 0x64, 0x8002, 2, []⟩ := by decide +kernel

theorem test_bvs_taken : (cpuRun [0x70, 0x05] { start with p := 0x64, pc := 0x80F0 }).map (look []) =
    some ⟨0x00, 0x00, 0x00, 0xFD, 0x64, 0x80F7, 3, []⟩ := by decide +kernel

theorem test_jmp_abs : (cpuRun [0x4C, 0x34, 0x12] start).map (look []) =
    some ⟨0x00, 0x00, 0x00, 0xFD, 0x24, 0x1234, 3, []⟩ := by decide +kernel

theorem test_jmp_ind_page_wrap : (cpuRun [0x6C, 0xFF, 0x02] { start with ram := [(0x200, 0x80), (0x2FF, 0x34), (0x300, 0x12)] }).map (look []) =
    some ⟨0x00, 0x00, 0x00, 0xFD, 0x24, 0x8034, 5, []⟩ := by decide +kernel

theorem test_jsr_stack_wraps : (cpuRun [0x20, 0x00, 0x90] { start with sp := 0x00 }).map (look [0x100, 0x1FF]) =
    some ⟨0x00, 0x00, 0x00, 0xFE, 0x24, 0x9000, 6, [0x80, 0x02]⟩ := by decide +kernel

theorem test_rts : (cpuRun [0x60] { start with sp := 0xFB, ram := [(0x1FC, 0x02), (0x1FD, 0x80)] }).map (look []) =
    some ⟨0x00, 0x00, 0x00, 0xFD, 0x24, 0x8003, 6, []⟩ := by decide +kernel

theorem test_rts_wraps : (cpuRun [0x60] { start with sp := 0xFB, ram := [(0x1FC, 0xFF), (0x1FD, 0xFF)] }).map (look []) =
    some ⟨0x00, 0x00, 0x00, 0xFD, 0x24, 0x0000, 6, []⟩ := by decide +kernel

theorem test_rti : (cpuRun [0x40] { start with sp := 0xFA, ram := [(0x1FB, 0xFF), (0x1FC, 0x02), (0x1FD, 0x80)] }).map (look []) =
    some ⟨0x00, 0x00, 0x00, 0xFD, 0xEF, 0x8002, 6, []⟩ := by decide +kernel

theorem test_pha_wraps : (cpuRun [0x48] { start with a := 0x42, sp := 0x00 }).map (look [0x100]) =
    some ⟨0x42, 0x00, 0x00, 0xFF, 0x24, 0x8001, 3, [0x42]⟩ := by decide +kernel

theorem test_php : (cpuRun [0x08] { start with p := 0xE7 }).map (look [0x1FD]) =
    some ⟨0x00, 0x00, 0x00, 0xFC, 0xE7, 0x8001, 3, [0xF7]⟩ := by decide +kernel

theorem test_pla_wraps : (cpuRun [0x68] { start with sp := 0xFF, ram := [(0x100, 0x80)] }).map (look []) =
    some ⟨0x80, 0x00, 0x00, 0x00, 0xA4, 0x8001, 4, []⟩ := by decide +kernel

theorem test_plp : (cpuRun [0x28] { start with sp := 0xFC, ram := [(0x1FD, 0xFF)] }).map (look []) =
    some ⟨0x00, 0x00, 0x00, 0xFD, 0xEF, 0x8001, 4, []⟩ := by decide +kernel

theorem test_clc : (cpuRun [0x18] { start with p := 0x25 }).map (look []) =
    some ⟨0x00, 0x00, 0x00, 0xFD, 0x24, 0x8001, 2, []⟩ := by decide +kernel

theorem test_sec : (cpuRun [0x38] start).map (look []) =
    some ⟨0x00, 0x00, 0x00, 0xFD, 0x25, 0x8001, 2, []⟩ := by decide +kernel

theorem test_cli : (cpuRun [0x58] start).map (look []) =
    some ⟨0x00, 0x00, 0x00, 0xFD, 0x20, 0x8001, 2, []⟩ := by decide +kernel

theorem test_sei : (cpuRun [0x78] { start with p := 0x20 }).map (look []) =
    some ⟨0x00, 0x00, 0x00, 0xFD, 0x24, 0x8001, 2, []⟩ := by decide +kernel

theorem test_cld : (cpuRun [0xD8] { start with p := 0x2C }).map (look []) =
    some ⟨0x00, 0x00, 0x00, 0xFD, 0x24, 0x8001, 2, []⟩ := by decide +kernel

theorem test_sed : (cpuRun [0xF8] start).map (look []) =
    some ⟨0x00, 0x00, 0x00, 0xFD, 0x2C, 0x8001, 2, []⟩ := by decide +kernel

theorem test_clv : (cpuRun [0xB8] { start with p := 0x64 }).map (look []) =
    some ⟨0x00, 0x00, 0x00, 0xFD, 0x24, 0x8001, 2, []⟩ := by decide +kernel

theorem test_nop : (cpuRun [0xEA] { start with a := 0x01, x := 0x02, y := 0x03, p := 0xE7 }).map (look []) =
    some ⟨0x01, 0x02, 0x03, 0xFD, 0xE7, 0x8001, 2, []⟩ := by decide +kernel

/-- BRK with the vector bytes of the vectors (44_jumps_calls.md R215). -/
theorem test_brk : (match cpuStep { start with p := 0xE5, cart := { start.cart with prg := [(0x7FFF, 0x90)] } } with
    | .next t => some (look [0x1FD, 0x1FC, 0x1FB] t)
    | _ => none) = some ⟨0x00, 0x00, 0x00, 0xFA, 0xE5, 0x9000, 7, [0x80, 0x02, 0xF5]⟩ := by decide +kernel

/-! The step (95_test_vectors.md sections 2.7 and 3; 49_master_clock.md R326) -/

/-- `start` with bytes in program ROM from 0x8000 on. -/
def withProg (bytes : List Byte) : State := start.setCart { start.cart with prg := Memory.ofList bytes }

/-- What a step answers, as far as a test looks at it. -/
def stepLook (s : State) : Option (Look × Nat × Nat × Nat) :=
  match step s with
  | .next t => some (look [] t, t.clk.cpuCycles, t.clk.ppuDots, t.ppu.dot)
  | .fault _ => none
  | .refused _ => none

/-- The fault of a step, if it stops with one. -/
def stepFault (s : State) : Option Fault :=
  match step s with
  | .next _ => none
  | .fault f => some f
  | .refused _ => none

theorem test_step_nop : stepLook (withProg [0xEA]) = some (⟨0, 0, 0, 0xFD, 0x24, 0x8001, 2, []⟩, 2, 6, 6) := by
  decide +kernel

theorem test_step_illegal : stepFault (withProg [0x02]) = some (.illegalOpcode 0x8000 0x02) ∧
    stepFault (withProg [0xFF]) = some (.illegalOpcode 0x8000 0xFF) ∧
    driverStep (withProg [0x80]) = (withProg [0x80]).setFault (some (.illegalOpcode 0x8000 0x80)) := by decide +kernel

theorem test_step_halted :
    driverStep ((withProg [0xEA]).setFault (some (.illegalOpcode 0x8000 0x02))) =
      (withProg [0xEA]).setFault (some (.illegalOpcode 0x8000 0x02)) := by decide +kernel

/-- The NMI entry of section 3; the byte at PC, an illegal one here, is not fetched. -/
theorem test_nmi_entry :
    (match cpuStep { (withProg [0x02]) with
        pc := 0x8005, p := 0x21, nmiPending := true, cart := { start.cart with prg := [(0x7FFB, 0x81)] } } with
      | .next t => some (look [0x1FD, 0x1FC, 0x1FB] t, t.nmiPending)
      | _ => none) = some (⟨0, 0, 0, 0xFA, 0x25, 0x8100, 7, [0x80, 0x05, 0x21]⟩, false) := by decide +kernel

/-- The hand-over of R328: the VBlank dot inside the step's six dots raises the NMI at its end. -/
theorem test_hand_over :
    (match step { (withProg [0xEA]) with
        ppu := { Ppu.powerOn with ctrl := 0x80, scanline := 241, dot := 0 } } with
      | .next t => some (t.nmiPending, t.ppu.nmiOut, t.ppu.vblank, t.ppu.frameComplete, t.ppu.dot)
      | _ => none) = some (true, false, true, true, 6) := by decide +kernel

/-- The instruction of a table word is the first to run after reset. -/
theorem test_fetch_word : (match step (State.reset.withFetchWord 16 0x80A9) with
    | .next t => some (look [] t)
    | _ => none) = some ⟨0x80, 0, 0, 0xFD, 0xA4, 0x0002, 2, []⟩ := by decide +kernel

/-- `reset` is the power-on state with the blank cartridge (70_reset_and_hazards.md R370). -/
theorem test_reset_is_power_on : State.powerOn Cartridge.blank = State.reset := by decide +kernel

/-! Devices (95_test_vectors.md sections 1 and 4) -/

/-- S2: the four images of a RAM cell, and an image of port 2. -/
theorem test_ram_images :
    [0x0000, 0x0800, 0x1000, 0x1800].map (fun a => peek a (busWrite 0x0800 0xAB start)) = [0xAB, 0xAB, 0xAB, 0xAB] := by
  decide +kernel

theorem test_port_image :
    let s := start.setPpu { start.ppu with vblank := true, w := true, ioLatch := 0x1F }
    let r := busRead 0x3FFA s
    (r.1, (busRead 0x2002 r.2).1, r.2.ppu.vblank, r.2.ppu.w) = (0x9F, 0x1F, false, false) := by decide +kernel

/-- S3: nine reads after a strobe, the host releasing the buttons in between. -/
theorem test_joypad :
    joySeries .default [0, 0, 0, 0, 0, 0, 0, 0, 0] ((Joypad.write 0x01 { Joypad.powerOn with buttons := 0x91 }).write 0x00) =
      [0x01, 0x00, 0x00, 0x00, 0x01, 0x00, 0x00, 0x01, 0x01] := by decide

/-- Section 4.5: with the strobe high the index does not advance. -/
theorem test_joypad_strobe_high :
    joySeries .default [1, 1, 1, 0] (Joypad.write 0x01 { Joypad.powerOn with buttons := 0x01 }) =
      [0x01, 0x01, 0x01, 0x01] := by decide

/-- Section 4.1, first table: ports 0, 5 and 6 from power-on. -/
theorem test_scroll_writes :
    let s1 := portWrite 0 0x03 start
    let s2 := portWrite 5 0x7D s1
    let s3 := portWrite 5 0x5E s2
    let s4 := portWrite 6 0xFF s3
    let s5 := portWrite 6 0x10 s4
    (s1.ppu.t, s2.ppu.t, s2.ppu.x, s2.ppu.w) = (0x0C00, 0x0C0F, 5, true) ∧
    (s3.ppu.t, s3.ppu.w, s3.ppu.v) = (0x6D6F, false, 0) ∧ (s4.ppu.t, s4.ppu.w) = (0x3F6F, true) ∧
    (s5.ppu.t, s5.ppu.v, s5.ppu.w) = (0x3F10, 0x3F10, false) := by decide +kernel

/-- Section 4.1, second table, rows 1 and 2: the data port and its read buffer. -/
theorem test_data_port :
    let w := fun (k : BitVec 3) (v : Byte) (s : State) => portWrite k v s
    let s1 := w 7 0xBB (w 7 0xAA (w 6 0x08 (w 6 0x21 start)))
    let s2 := w 6 0x08 (w 6 0x21 s1)
    let r1 := busRead 0x2007 s2
    let r2 := busRead 0x2007 r1.2
    let r3 := busRead 0x2007 r2.2
    (s1.ppu.ntRam.read 0x108, s1.ppu.ntRam.read 0x109, s1.ppu.v) = (0xAA, 0xBB, 0x210A) ∧
    (r1.1, r2.1, r3.1, r3.2.ppu.v) = (0x00, 0xAA, 0xBB, 0x210B) := by decide +kernel

/-- Rows 4 to 6: the palette alias, the undelayed palette read, the 15-bit address. -/
theorem test_palette_port :
    let w := fun (k : BitVec 3) (v : Byte) (s : State) => portWrite k v s
    let s1 := w 7 0xFF (w 6 0x10 (w 6 0x3F start))
    let r := busRead 0x2007 (w 6 0x00 (w 6 0x3F s1))
    let s2 := w 7 0x01 (w 6 0xFF (w 6 0x3F s1))
    (s1.ppu.pal.read 0, s1.ppu.v, r.1, r.2.ppu.v) = (0x3F, 0x3F11, 0x3F, 0x3F01) ∧
    (s2.ppu.pal.read 0x1F, s2.ppu.v) = (0x01, 0x4000) := by decide +kernel

/-- Row 9: OAM through ports 3 and 4. -/
theorem test_oam_port :
    let s := portWrite 4 0x33 (portWrite 4 0x22 (portWrite 4 0x11 (portWrite 3 0xFE start)))
    (s.ppu.oam, s.ppu.oamAddr, (busRead 0x2004 s).1) = ([(0x00, 0x33), (0xFE, 0x11), (0xFF, 0x22)], 0x01, 0x00) := by
  decide +kernel

/-- Row 10, with three bytes of the page: OAM DMA wraps and costs 513 more. -/
theorem test_oam_dma :
    (cpuRun [0x8D, 0x14, 0x40] { start with
      a := 0x02, ram := [(0x201, 0x01), (0x2EF, 0xEF), (0x2F0, 0xF0)], ppu := { Ppu.powerOn with oamAddr := 0x10 } }).map
        (fun t => (t.ppu.oam, t.ppu.oamAddr, t.cyc)) =
      some ([(0x00, 0xF0), (0x11, 0x01), (0xFF, 0xEF)], 0x10, 517) := by decide +kernel

/-- Section 4.2: nametable and palette folding. -/
theorem test_ppu_folding :
    [0x2000, 0x23FF, 0x2400, 0x2800, 0x2C00, 0x2FFF, 0x3000, 0x3EFF].map (ntIndex .horizontal) =
      [0x000, 0x3FF, 0x000, 0x400, 0x400, 0x7FF, 0x000, 0x6FF] ∧
    [0x2000, 0x23FF, 0x2400, 0x2800, 0x2C00, 0x2FFF, 0x3000, 0x3EFF].map (ntIndex .vertical) =
      [0x000, 0x3FF, 0x400, 0x000, 0x400, 0x7FF, 0x000, 0x6FF] ∧
    [0x2400, 0x2800, 0x2C00, 0x3EFF].map (ntIndex .fourScreen) = [0x400, 0x800, 0xC00, 0xEFF] ∧
    [0x3F00, 0x3F04, 0x3F10, 0x3F14, 0x3F18, 0x3F1C, 0x3F11, 0x3F20, 0x3FFF].map palIndex =
      [0x00, 0x04, 0x00, 0x04, 0x08, 0x0C, 0x11, 0x00, 0x1F] := by decide +kernel

/-- Section 4.3: the scroll counters and the attribute fetch. -/
theorem test_scroll_counters :
    [0x0000, 0x6000, 0x7000, 0x73A0, 0x7BA0, 0x73E0].map incY = [0x1000, 0x7000, 0x0020, 0x0800, 0x0000, 0x0000] ∧
    [0x0000, 0x001F, 0x041F].map incCoarseX = [0x0001, 0x0400, 0x0000] ∧
    (attrAddr 0x2ABC, attrShift 0x2ABC) = (0x2BEF, 0) := by decide +kernel

/-- Section 4.3: sprite pattern addresses. -/
theorem test_sprite_addresses :
    (sprPatAddr false true 0x12 (sprRow 8 0x23 0x20 0x00), sprPatAddr false false 0x12 (sprRow 8 0x23 0x20 0x80)) =
      (0x1123, 0x0124) ∧
    (sprPatAddr true false 0x13 (sprRow 16 0x23 0x20 0x00), sprPatAddr true false 0x13 (sprRow 16 0x2B 0x20 0x00),
      sprPatAddr true false 0x13 (sprRow 16 0x23 0x20 0x80)) = (0x1123, 0x1133, 0x1134) := by decide +kernel

/-- OAM filled with 0xFF but for the cells given. -/
def oamWith (cells : List (Nat × Byte)) : Memory 8 :=
  cells.foldl (fun m c => Memory.write m c.1 c.2) (Memory.ofList (List.replicate 256 0xFF))

/-- `sec_count`, `spr0_on_line`, `spr_overflow` after evaluation on scanline 0x28. -/
def evalLook (ctrl : Byte) (cells : List (Nat × Byte)) : Nat × Bool × Bool :=
  let q := Ppu.evaluateSprites 0x28 { Ppu.powerOn with ctrl := ctrl, oam := oamWith cells }
  (q.secCount, q.spr0OnLine, q.sprOverflow)

/-- Entries `lo` to `hi` have Y = 0x21. -/
def inRangeCells (lo hi : Nat) : List (Nat × Byte) := (List.range' lo (hi + 1 - lo)).map fun n => (4 * n, 0x21)

/-- Section 4.4: nine in a row; exactly eight; the ninth missed; the false positive. -/
theorem test_sprite_overflow :
    evalLook 0 (inRangeCells 0 8) = (8, true, true) ∧ evalLook 0 (inRangeCells 0 7) = (8, true, false) ∧
    evalLook 0 (inRangeCells 0 7 ++ [(36, 0x21)]) = (8, true, false) ∧
    evalLook 0 (inRangeCells 0 7 ++ [(37, 0x25)]) = (8, true, true) := by decide +kernel

theorem test_sprite_quirk :
    evalLook 0 (inRangeCells 1 8 ++ [(48, 0x21)]) = (8, false, false) ∧
    evalLook 0 (inRangeCells 1 8 ++ [(52, 0x21)]) = (8, false, true) ∧
    evalLook 0 [(0, 0x28), (4, 0x20), (8, 0x21), (12, 0x29)] = (2, true, false) ∧
    evalLook 0x20 [(0, 0x28), (4, 0x20), (8, 0x21), (12, 0x29)] = (3, true, false) := by decide +kernel

/-- R297 and R298 at one dot: an opaque background pixel under an opaque, high-priority sprite 0 shows the sprite's entry,
with emphasis bits and grayscale, and hits. -/
theorem test_pixel :
    let p : Ppu := { Ppu.powerOn with
      mask := 0xBF, scanline := 30, dot := 12, bgShLo := 0x4000, secCount := 1, spr0OnLine := true,
      sprLo := [(0, 0xFF)], sprX := [(0, 0x0A)], sprAttr := [(0, 0x02)], pal := [(0x19, 0x2D)] }
    ((p.tick .blank).spr0Hit, (p.tick .blank).fb) = (true, [(256 * 30 + 11, 0x160)]) := by decide +kernel

/-- R300 and R273: the VBlank dot and the clearing dot. -/
theorem test_vblank_dots :
    let p := Ppu.tick .blank { Ppu.powerOn with ctrl := 0x80, scanline := 241, dot := 1 }
    let q := Ppu.tick .blank { Ppu.powerOn with
      vblank := true, spr0Hit := true, sprOverflow := true, scanline := 261, dot := 1 }
    (p.vblank, p.frameComplete, p.nmiOut) = (true, true, true) ∧
    (q.vblank, q.spr0Hit, q.sprOverflow) = (false, false, false) := by decide +kernel

/-- R272 at the end of a line and of a frame. -/
theorem test_raster :
    (fun p : Ppu => (p.scanline, p.dot, p.frame)) (Ppu.tick .blank { Ppu.powerOn with scanline := 3, dot := 340 }) =
      (4, 0, 0) ∧
    (fun p : Ppu => (p.scanline, p.dot, p.frame)) (Ppu.tick .blank { Ppu.powerOn with scanline := 261, dot := 340 }) =
      (0, 0, 1) := by decide +kernel

/-- R377: the format errors of S6, on the header alone. -/
theorem test_load_errors :
    (loadCartridge (List.replicate 15 0), loadCartridge (List.replicate 16 0)) =
      (.error .truncated, .error .badMagic) ∧
    [loadCartridge ([0x4E, 0x45, 0x53, 0x1A, 1, 1, 0x10] ++ List.replicate 9 0),
      loadCartridge ([0x4E, 0x45, 0x53, 0x1A, 1, 1, 0, 0x40] ++ List.replicate 8 0),
      loadCartridge ([0x4E, 0x45, 0x53, 0x1A, 3, 1] ++ List.replicate 10 0),
      loadCartridge ([0x4E, 0x45, 0x53, 0x1A, 1, 1] ++ List.replicate 10 0)] =
      [.error .unsupportedMapper, .error .unsupportedMapper, .error .unsupportedSize, .error .truncated] := by
  decide +kernel

theorem test_load_mirroring :
    [0x00, 0x01, 0x08, 0x09].map (fun f : Byte => headerMirroring [0x4E, 0x45, 0x53, 0x1A, 1, 1, f]) =
      [.horizontal, .vertical, .fourScreen, .fourScreen] := by decide

/-! Witnesses: concrete states and operands that meet the hypotheses of each statement, every clause at a boundary. -/

theorem witness_EncodingADecodedInstructionGivesItsBytes :
    decode [0x6C, 0xFF, 0x02, 0xEA] = .ok (.jmpInd 0x02FF, [0xEA]) := by decide

theorem witness_DecoderRefusesExactlyTheIllegalOpcodes : (0x02 : Byte) ∈ illegalOpcodes ∧ (0xFF : Byte) ∈ illegalOpcodes ∧
    (0x00 : Byte) ∉ illegalOpcodes ∧ (0xFE : Byte) ∉ illegalOpcodes := by decide

theorem witness_LegalLinesNameOneInstruction :
    Line.wf { mnemonic := .nop, operand := .imp } = true ∧ Instr.nop.line = { mnemonic := .nop, operand := .imp } := by
  decide

/-- A three-byte instruction at the end of the address space: its last byte is read at 0x0000. -/
def atTheEnd : State :=
  { start with pc := 0xFFFE, ram := [(0, 0x12)], cart := { start.cart with prg := [(0x7FFE, 0x4C), (0x7FFF, 0x34)] } }

theorem witness_StepRunsTheDecodedInstruction : atTheEnd.fault = none ∧ atTheEnd.nmiPending = false ∧
    decode [peek 0xFFFE atTheEnd, peek 0xFFFF atTheEnd, peek 0x0000 atTheEnd] = .ok (.jmpAbs 0x1234, []) ∧
    (Instr.jmpAbs 0x1234).length = 3 ∧ (0xFFFE : Word).toNat ≥ 0x8000 ∧ (0xFFFF : Word).toNat ≥ 0x8000 ∧
    (0xFFFE + 2 : Word).toNat < 0x2000 := by decide +kernel

/-- An instruction fetched from a PPU port: the opcode byte is the I/O latch. -/
theorem witness_StepFetchesThroughTheBus :
    let s := { start with pc := 0x2000, ppu := { Ppu.powerOn with ioLatch := 0xEA } }
    s.fault = none ∧ s.nmiPending = false ∧ decode (readBytes Instr.nop.length s.pc s).1 = .ok (.nop, []) := by
  decide +kernel

theorem witness_EndOfStepRunsThreeDotsACycleThenHandsOver : (stepLook (withProg [0xEA])).isSome = true := by decide +kernel

theorem witness_PendingNmiIsEnteredBeforeTheFetch :
    let s := { start with nmiPending := true, sp := 0x01 }
    s.fault = none ∧ s.nmiPending = true ∧ s.ram.wf 2048 = true ∧ below s.sp 2 = 0x1FF := by decide

theorem witness_IllegalOpcodeHaltsTheMachine :
    let s := withProg [0xFF]
    s.fault = none ∧ s.nmiPending = false ∧ (busRead s.pc s).1 ∈ illegalOpcodes ∧
      (s.setFault (some (.illegalOpcode 0x8000 0xFF))).fault = some (.illegalOpcode 0x8000 0xFF) := by decide +kernel

/-- Both sides of the equivalence: an NMI over an illegal byte completes, and an illegal byte alone does not. -/
theorem witness_StepCompletesUnlessAFaultStopsIt :
    (stepLook ((withProg [0x02]).setNmiPending true)).isSome = true ∧
      stepFault (withProg [0x02]) = some (.illegalOpcode 0x8000 0x02) := by decide +kernel

/-- The operand byte and cycles a source gives, to look at. -/
def sourceLook (s : State) (o : Operand) : Option (Byte × Nat × Nat) :=
  (source s o).map fun r => (r.byte, r.cycles, r.length)

/-- RAM with a pointer at 0xFF that wraps, and a byte it points to. -/
def pointers : State := { start with x := 0x0F, y := 0x01, ram := [(0x00, 0x02), (0xFF, 0xFF), (0x2FF, 0x77), (0x300, 0x99)] }

theorem witness_LoadsWriteTheRegisterAndSetZN :
    sourceLook pointers (Instr.ldaIzy 0xFF).operand = some (0x99, 6, 2) ∧ (Instr.ldaIzy 0xFF).mnemonic = .lda ∧
    sourceLook pointers (Instr.ldaIzx 0xF0).operand = some (0x77, 6, 2) ∧ (Instr.ldaIzx 0xF0).mnemonic = .lda ∧
    sourceLook pointers (Instr.ldxZpy 0xFF).operand = some (0x02, 4, 2) ∧ (Instr.ldxZpy 0xFF).mnemonic = .ldx ∧
    sourceLook pointers (Instr.ldyAbx 0xFFF1).operand = some (0x02, 5, 3) ∧ (Instr.ldyAbx 0xFFF1).mnemonic = .ldy ∧
    sourceLook pointers (Instr.ldaImm 0x80).operand = some (0x80, 2, 2) ∧ sourceLook pointers Instr.tax.operand = none := by
  decide +kernel

theorem witness_StoresWriteTheBusAndChangeNoFlag :
    dataOperand (Instr.staAbs 0x4014).operand = some (.abs 0x4014) ∧ stored .sta pointers = some 0x00 ∧
    dmaCost (address pointers (.abs 0x4014)) = 513 ∧ dmaCost (address pointers (.abs 0x4015)) = 0 ∧
    dataOperand (Instr.stxZpy 0xFF).operand = some (.zpy 0xFF) ∧ stored .stx pointers = some 0x0F ∧
    dataOperand (Instr.styZpx 0xF1).operand = some (.zpx 0xF1) ∧ stored .sty pointers = some 0x01 := by decide +kernel

/-- The stored-to address on each side of 0x2000, for a store and for a read-modify-write form that completes. -/
theorem witness_StoresChangeOnlyTheAddressedByte :
    pointers.ram.wf 2048 = true ∧ stored .sta pointers = some 0x00 ∧ address pointers (.abs 0x1FFF) = 0x1FFF ∧
    address pointers (.abs 0x2000) = 0x2000 ∧
    modified .inc (busRead (busAddress pointers (.abs 0x12FF)) pointers).1 false = some (0x78, none) ∧
    (match exec (.incAbs 0x12FF) pointers with | .next _ => true | _ => false) = true := by decide +kernel

theorem witness_AdcAndSbcObeyTheIntegerLaws :
    sourceLook pointers (Instr.adcAby 0x02FE).operand = some (0x77, 4, 3) ∧ (Instr.adcAby 0x02FE).mnemonic = .adc ∧
    sourceLook pointers (Instr.sbcAby 0x02FF).operand = some (0x99, 5, 3) ∧ (Instr.sbcAby 0x02FF).mnemonic = .sbc := by
  decide +kernel

theorem witness_ComparesReportTheUnsignedOrder :
    sourceLook pointers (Instr.cmpZpx 0xF0).operand = some (0xFF, 4, 2) ∧ (Instr.cmpZpx 0xF0).mnemonic = .cmp ∧
    sourceLook pointers (Instr.cpxZp 0x00).operand = some (0x02, 3, 2) ∧ (Instr.cpxZp 0x00).mnemonic = .cpx ∧
    sourceLook pointers (Instr.cpyAbs 0x8000).operand = some (0x00, 4, 3) ∧ (Instr.cpyAbs 0x8000).mnemonic = .cpy := by
  decide +kernel

theorem witness_ModifyFormsReadThenWriteTheSameAddress :
    dataOperand (Instr.rorZp 0xFF).operand = some (.zp 0xFF) ∧
    modified .ror (busRead (busAddress pointers (.zp 0xFF)) pointers).1 true = some (0xFF, some true) ∧
    modified .asl 0x80 false = some (0x00, some true) ∧ modified .lsr 0x01 true = some (0x00, some true) ∧
    modified .rol 0x80 true = some (0x01, some true) ∧ modified .dec 0x00 false = some (0xFF, none) := by decide +kernel

theorem witness_AccumulatorShiftsWriteA :
    Instr.aslAcc.operand = .acc ∧ modified Instr.aslAcc.mnemonic start.a (carry start.p) = some (0, some false) ∧
    Instr.rorAcc.operand = .acc ∧ modified Instr.rorAcc.mnemonic start.a (carry start.p) = some (0, some false) := by
  decide

theorem witness_LogicWorksBitByBit :
    sourceLook pointers (Instr.andZp 0xFF).operand = some (0xFF, 3, 2) ∧ (Instr.andZp 0xFF).mnemonic = .and ∧
    sourceLook pointers (Instr.oraAbs 0x0300).operand = some (0x99, 4, 3) ∧ (Instr.oraAbs 0x0300).mnemonic = .ora ∧
    sourceLook pointers (Instr.eorImm 0xFF).operand = some (0xFF, 2, 2) ∧ (Instr.eorImm 0xFF).mnemonic = .eor := by
  decide +kernel

theorem witness_BitTestsTheMemoryByte :
    sourceLook pointers (Instr.bitAbs 0x2002).operand = some (0x00, 4, 3) ∧ (Instr.bitAbs 0x2002).mnemonic = .bit := by
  decide +kernel

theorem witness_BranchesFollowTheirFlag :
    (Instr.bne 0x80).operand = .rel 0x80 ∧ taken .bne start.p = some true ∧ taken .beq start.p = some false ∧
    taken .bcc start.p = some true ∧ taken .bcs start.p = some false ∧ taken .bpl start.p = some true ∧
    taken .bmi start.p = some false ∧ taken .bvc start.p = some true ∧ taken .bvs start.p = some false := by decide

/-- The RAM hypothesis of the stack statements, with S at both ends of the page. -/
theorem witness_stack_statements : start.ram.wf 2048 = true ∧ below 0x00 0 = 0x100 ∧ below 0x00 1 = 0x1FF ∧
    below 0x01 2 = 0x1FF ∧ above 0xFF 1 = 0x100 ∧ above 0xFE 3 = 0x101 := by decide

/-- For JSR, BRK and NMI entry followed by their returns: the hypotheses hold and each entry completes. -/
theorem witness_ReturnsUndoTheirEntries : start.ram.wf 2048 = true ∧ statusOk start.p = true ∧
    (match exec (.jsr 0x9000) start with | .next _ => true | _ => false) = true ∧
    (match exec .brk start with | .next _ => true | _ => false) = true := by decide +kernel

theorem witness_FlagInstructionsWriteOneFlag :
    [Instr.clc, .sec, .cli, .sei, .cld, .sed, .clv].map (fun i => flagWrite i.mnemonic) =
      [some (0, false), some (0, true), some (2, false), some (2, true), some (3, false), some (3, true),
        some (6, false)] := by decide

/-- An instruction that completes and changes A, X, Y, S or a flag, for each clause. -/
theorem witness_OnlyListedInstructionsWriteAFlagOrRegister : statusOk start.p = true ∧
    (match exec (.ldaImm 0x80) start with | .next t => t.a != start.a && t.p != start.p | _ => false) = true ∧
    (match exec .tsx start with | .next t => t.x != start.x | _ => false) = true ∧
    (match exec .dey start with | .next t => t.y != start.y | _ => false) = true ∧
    (match exec .txs start with | .next t => t.sp != start.sp | _ => false) = true := by decide +kernel

theorem witness_DecimalFlagAndClockReachNoResult : (Instr.adcImm 0x99).mnemonic = .adc ∧
    (match exec (.adcImm 0x99) start with | .next t => t.a == 0x99 | _ => false) = true := by decide +kernel

theorem witness_NonStoringInstructionsLeaveMemory : stores (.ldaAbs 0x2007) = false ∧ stores .aslAcc = false ∧
    (match exec (.ldaAbs 0x2007) start with | .next _ => true | _ => false) = true ∧ InMemory 0x1FFF ∧
    InMemory 0x8000 := by decide +kernel

theorem witness_InstructionsLeaveThePpuInternals :
    (match exec (.staAbs 0x4014) { start with ppu := { Ppu.powerOn with vblank := true } } with
      | .next t => t.ppu.vblank
      | _ => false) = true := by decide +kernel

theorem witness_StepLeavesTheConfiguration :
    let s := withProg [0xEA]
    (stepLook { s with cart := { s.cart with chrIsRam := false } }).isSome = true := by decide +kernel

/-- The cheapest and the dearest step: NOP, and INC in ABX mode on the DMA port. -/
theorem witness_StepCostsTwoToFiveHundredTwentyCycles :
    (cpuRun [0xEA] start).map (fun t => t.cyc) = some 2 ∧ (cpuRun [0xFE, 0x14, 0x40] start).map (fun t => t.cyc) = some 520 := by
  decide +kernel

/-- An address at each end of each arm. -/
theorem witness_bus_arms :
    [0x0000, 0x1FFF, 0x2000, 0x3FFF, 0x4000, 0x4013, 0x4014, 0x4015, 0x4016, 0x4017, 0x4018, 0x401F, 0x4020, 0x7FFF,
      0x8000, 0xFFFF].map busTarget =
    [.ram 0, .ram 0x7FF, .port 0, .port 7, .undecoded, .undecoded, .dma, .undecoded, .joy, .joy2, .undecoded, .undecoded,
      .undecoded, .undecoded, .prg, .prg] := by decide +kernel

theorem witness_RamImagesShareOneCell : start.ram.wf 2048 = true ∧ (0x1FFF : Word).toNat < 0x2000 ∧
    (0x07FF : Word).toNat < 0x2000 ∧ (0x1FFF : Word).toNat % 2048 = (0x07FF : Word).toNat % 2048 := by decide

theorem witness_OamDmaCopiesThePage : start.ppu.oam.wf 256 = true ∧ (0x1F : Byte).toNat < 0x20 ∧
    0x41 ≤ (0x41 : Byte).toNat ∧ 0x41 ≤ (0xFF : Byte).toNat := by decide

/-- `v` at each end of each region of the PPU bus, and the toggle in both positions. -/
theorem witness_PortWritesFollowTheirRules : start.ppu.w = false ∧ (portWrite 5 0x7D start).ppu.w = true := by
  decide +kernel

theorem witness_PpuBusReachesOneCell :
    [0x1FFF, 0x2000, 0x3EFF, 0x3F00, 0x3FFF, 0x5FFF].map (fun v : BitVec 15 => v.toNat % 16384) =
      [0x1FFF, 0x2000, 0x3EFF, 0x3F00, 0x3FFF, 0x1FFF] ∧ start.cart.chrIsRam = true := by decide

theorem witness_raster_statements :
    ({ Ppu.powerOn with scanline := 261, dot := 340 } : Ppu).rasterOk ∧ ({ Ppu.powerOn with scanline := 260, dot := 340 } : Ppu).rasterOk ∧
    ({ Ppu.powerOn with scanline := 261, dot := 339 } : Ppu).rasterOk ∧ Ppu.powerOn.rasterOk := by
  unfold Ppu.rasterOk; decide

/-- The enter and clear dots of the status flags. -/
theorem witness_StatusFlagsChangeAtTheirDots :
    (Ppu.tick .blank { Ppu.powerOn with scanline := 241, dot := 1 }).vblank = true ∧
    (Ppu.tick .blank { Ppu.powerOn with scanline := 261, dot := 1, vblank := true }).vblank = false ∧
    (Ppu.tick .blank { Ppu.powerOn with scanline := 241, dot := 2, vblank := true }).vblank = true := by decide +kernel

theorem witness_pipeline_statements :
    pipelineOn { Ppu.powerOn with mask := 0x08, scanline := 239 } ∧ pipelineOn { Ppu.powerOn with mask := 0x10, scanline := 261 } ∧
    ¬ pipelineOn { Ppu.powerOn with mask := 0x18, scanline := 240 } ∧ ¬ pipelineOn { Ppu.powerOn with scanline := 239 } := by
  decide

theorem witness_SpriteEvaluationTakesTheFirstEight : Ppu.powerOn.sec.wf 32 = true ∧
    (inRangeEntries { Ppu.powerOn with oam := oamWith (inRangeCells 1 9) } 0x28).length = 9 := by decide +kernel

theorem witness_SpriteRowsAreFetchedForTheNextLine :
    let p : Ppu := { Ppu.powerOn with mask := 0x10, oam := oamWith (inRangeCells 0 8) }
    p.sec.wf 32 = true ∧ p.sprLo.wf 8 = true ∧ p.sprHi.wf 8 = true ∧ p.sprAttr.wf 8 = true ∧ p.sprX.wf 8 = true ∧
    p.mask.getLsbD 4 = true ∧ (p.evaluateSprites 0x28).secCount = 8 := by decide +kernel

theorem witness_VisibleDotsWriteTheComposedPixel : Ppu.powerOn.fb.wf 61440 = true ∧
    256 * 239 + (256 - 1) < 61440 ∧ winner { Ppu.powerOn with mask := 0x14, secCount := 1, sprLo := [(0, 0x80)] } 0 = some 0 := by
  decide +kernel

theorem witness_DisabledRenderingShowsTheBackdrop : Ppu.powerOn.fb.wf 61440 = true ∧
    Ppu.powerOn.mask.getLsbD 3 = false ∧ Ppu.powerOn.mask.getLsbD 4 = false := by decide

theorem witness_JoypadDeliversTheSnapshot : (0x01 : Byte).getLsbD 0 = true ∧ (0x02 : Byte).getLsbD 0 = false ∧
    8 < (List.replicate 9 (0x00 : Byte)).length := by decide

/-- A header that passes every check, too short and (with no pattern ROM) just long enough in what it asks for. -/
theorem witness_CartridgeLoadFollowsTheHeader :
    let bs : List Byte := [0x4E, 0x45, 0x53, 0x1A, 2, 0, 0, 0] ++ List.replicate 8 0
    bs.length = 16 ∧ bs.getD 0 0 = 0x4E ∧ bs.getD 1 0 = 0x45 ∧ bs.getD 2 0 = 0x53 ∧ bs.getD 3 0 = 0x1A ∧
    (bs.getD 7 0).toNat / 16 * 16 + (bs.getD 6 0).toNat / 16 = 0 ∧ bs.getD 4 0 = 2 ∧ (bs.getD 5 0).toNat ≤ 1 ∧
    bs.length < 16 + 32768 ∧ (bs ++ List.replicate 32768 0).length = 16 + 32768 := by
  refine ⟨by decide, by decide, by decide, by decide, by decide, by decide, by decide, by decide, by decide, ?_⟩
  rw [List.length_append, List.length_replicate]; rfl

theorem witness_RunFrameEndsWithinItsBound : State.reset.ppu.rasterOk := by unfold Ppu.rasterOk; decide

/-- A state that meets the invariant and steps. -/
theorem witness_StepKeepsTheInvariant : (withProg [0xEA]).Inv ∧ (stepLook (withProg [0xEA])).isSome = true := by
  refine ⟨⟨⟨?_, ?_, ?_, ?_, ?_, ?_, ?_, ?_, ?_, ?_, ?_, ?_⟩, ?_, ?_, ?_, ?_, ?_, ?_⟩, ?_⟩
  case refine_14 => unfold Ppu.rasterOk; decide
  all_goals decide +kernel

end Sys2Proof.Tests
end

section
/-! PROOFS. The shape of every instruction's meaning, said once: which of the model's shared shapes (Machine/Operands.lean)
it is, and which effect its mnemonic gives that shape. A rule over every instruction is then one case a shape. -/

namespace Sys2Proof.Machine

/-- The effect of a form that reads its operand, by mnemonic. -/
def readEffect : Mnemonic → Option (Byte → State → State)
  | .lda => some loadA
  | .ldx => some loadX
  | .ldy => some loadY
  | .adc => some adcA
  | .sbc => some sbcA
  | .cmp => some cmpA
  | .cpx => some cmpX
  | .cpy => some cmpY
  | .and => some andA
  | .ora => some oraA
  | .eor => some eorA
  | .bit => some bitA
  | _ => none

/-- The operation of a read-modify-write form, by mnemonic. -/
def modifyEffect : Mnemonic → Option (Byte → Byte → Byte × Byte)
  | .inc => some incOp
  | .dec => some decOp
  | .asl => some aslOp
  | .lsr => some lsrOp
  | .rol => some rolOp
  | .ror => some rorOp
  | _ => none

/-- The register a store stores, by mnemonic. -/
def storedRegister : Mnemonic → Option (State → Byte)
  | .sta => some State.a
  | .stx => some State.x
  | .sty => some State.y
  | _ => none

/-- The effect of a one-byte instruction that only writes registers, by mnemonic. -/
def registerEffect : Mnemonic → Option (State → State)
  | .tax => some fun s => loadX s.a s
  | .tay => some fun s => loadY s.a s
  | .txa => some fun s => loadA s.x s
  | .tya => some fun s => loadA s.y s
  | .tsx => some fun s => loadX s.sp s
  | .txs => some fun s => s.setSp s.x
  | .inx => some fun s => (s.setX (incOp s.x s.p).1).setP (incOp s.x s.p).2
  | .iny => some fun s => (s.setY (incOp s.y s.p).1).setP (incOp s.y s.p).2
  | .dex => some fun s => (s.setX (decOp s.x s.p).1).setP (decOp s.x s.p).2
  | .dey => some fun s => (s.setY (decOp s.y s.p).1).setP (decOp s.y s.p).2
  | .clc => some fun s => s.setP (setFlag bitC false s.p)
  | .sec => some fun s => s.setP (setFlag bitC true s.p)
  | .cli => some fun s => s.setP (setFlag bitI false s.p)
  | .sei => some fun s => s.setP (setFlag bitI true s.p)
  | .cld => some fun s => s.setP (setFlag bitD false s.p)
  | .sed => some fun s => s.setP (setFlag bitD true s.p)
  | .clv => some fun s => s.setP (setFlag bitV false s.p)
  | .nop => some fun s => s
  | _ => none

/-- The byte a push instruction pushes, by mnemonic. -/
def pushedByte : Mnemonic → Option (State → Byte)
  | .pha => some State.a
  | .php => some fun s => pushedByInstr s.p
  | _ => none

/-- What a pull instruction does with the byte pulled, by mnemonic. -/
def pulledEffect : Mnemonic → Option (Byte → State → State)
  | .pla => some loadA
  | .plp => some fun b s => s.setP (pulledP b)
  | _ => none

/-- The condition of a branch on P, by mnemonic. -/
def branchCond : Mnemonic → Option (Byte → Bool)
  | .bcc => some fun p => !flag bitC p
  | .bcs => some fun p => flag bitC p
  | .beq => some fun p => flag bitZ p
  | .bne => some fun p => !flag bitZ p
  | .bmi => some fun p => flag bitN p
  | .bpl => some fun p => !flag bitN p
  | .bvc => some fun p => !flag bitV p
  | .bvs => some fun p => flag bitV p
  | _ => none

/-- `e` has one of the shapes a meaning of instruction `i` can have. -/
inductive Shape (i : Instr) (e : State → Result State) : Prop where
  | readImm {f} (h : readEffect i.mnemonic = some f) (base : Nat) (b : Byte) (he : e = readImm base f b)
  | readMem {f} (h : readEffect i.mnemonic = some f) (base : Nat) (o : MemOperand) (he : e = readMem base f o)
  | store {v} (h : storedRegister i.mnemonic = some v) (base : Nat) (o : MemOperand)
      (he : e = fun s => storeMem base (v s) o s)
  | modifyMem {f} (h : modifyEffect i.mnemonic = some f) (base : Nat) (o : MemOperand) (he : e = modifyMem base f o)
  | modifyAcc {f} (h : modifyEffect i.mnemonic = some f) (ho : i.operand = .acc)
      (hm : i.mnemonic ∈ [.asl, .lsr, .rol, .ror]) (base : Nat) (he : e = modifyAcc base f)
  | register {f} (h : registerEffect i.mnemonic = some f) (base : Nat) (he : e = implied base f)
  | push {v} (h : pushedByte i.mnemonic = some v) (base : Nat) (he : e = implied base fun s => push (v s) s)
  | pull {f} (h : pulledEffect i.mnemonic = some f) (base : Nat)
      (he : e = implied base fun s => f (pull s).1 (pull s).2)
  | branch {c} (h : branchCond i.mnemonic = some c) (off : Byte) (he : e = fun s => branchIf (c s.p) off s)
  | jmpAbs (h : i.mnemonic = .jmp) (w : Word) (he : e = execJmpAbs w)
  | jmpInd (h : i.mnemonic = .jmp) (w : Word) (he : e = execJmpInd w)
  | jsr (h : i.mnemonic = .jsr) (w : Word) (he : e = execJsr w)
  | rts (h : i.mnemonic = .rts) (he : e = execRts)
  | brk (h : i.mnemonic = .brk) (he : e = execBrk)
  | rti (h : i.mnemonic = .rti) (he : e = execRti)

/-- Every instruction's meaning has the shape, with the effect, that its mnemonic names. -/
theorem exec_shape (i : Instr) : Shape i (exec i) := by
  cases i
  case ldaImm | ldxImm | ldyImm | adcImm | sbcImm | cmpImm | cpxImm | cpyImm | andImm | oraImm | eorImm =>
    exact .readImm rfl _ _ rfl
  case ldaZp | ldaZpx | ldaAbs | ldaAbx | ldaAby | ldaIzx | ldaIzy | ldxZp | ldxZpy | ldxAbs | ldxAby | ldyZp | ldyZpx |
      ldyAbs | ldyAbx | adcZp | adcZpx | adcAbs | adcAbx | adcAby | adcIzx | adcIzy | sbcZp | sbcZpx | sbcAbs | sbcAbx |
      sbcAby | sbcIzx | sbcIzy | cmpZp | cmpZpx | cmpAbs | cmpAbx | cmpAby | cmpIzx | cmpIzy | cpxZp | cpxAbs | cpyZp |
      cpyAbs | andZp | andZpx | andAbs | andAbx | andAby | andIzx | andIzy | oraZp | oraZpx | oraAbs | oraAbx | oraAby |
      oraIzx | oraIzy | eorZp | eorZpx | eorAbs | eorAbx | eorAby | eorIzx | eorIzy | bitZp | bitAbs =>
    exact .readMem rfl _ _ rfl
  case staZp | staZpx | staAbs | staAbx | staAby | staIzx | staIzy | stxZp | stxZpy | stxAbs | styZp | styZpx | styAbs =>
    exact .store rfl _ _ rfl
  case incZp | incZpx | incAbs | incAbx | decZp | decZpx | decAbs | decAbx | aslZp | aslZpx | aslAbs | aslAbx | lsrZp |
      lsrZpx | lsrAbs | lsrAbx | rolZp | rolZpx | rolAbs | rolAbx | rorZp | rorZpx | rorAbs | rorAbx =>
    exact .modifyMem rfl _ _ rfl
  case aslAcc | lsrAcc | rolAcc | rorAcc => exact .modifyAcc rfl rfl (by decide) _ rfl
  case tax | tay | txa | tya | tsx | txs | inx | iny | dex | dey | clc | sec | cli | sei | cld | sed | clv | nop =>
    exact .register rfl _ rfl
  case pha | php => exact .push rfl _ rfl
  case pla | plp => exact .pull rfl _ rfl
  case bcc | bcs | beq | bne | bmi | bpl | bvc | bvs => exact .branch rfl _ rfl
  case jmpAbs w => exact .jmpAbs rfl w rfl
  case jmpInd w => exact .jmpInd rfl w rfl
  case jsr w => exact .jsr rfl w rfl
  case rts => exact .rts rfl rfl
  case brk => exact .brk rfl rfl
  case rti => exact .rti rfl rfl

/-- A mnemonic that reads an operand byte has no other shape. -/
theorem readEffect_only {m : Mnemonic} {f : Byte → State → State} (h : readEffect m = some f) :
    storedRegister m = none ∧ modifyEffect m = none ∧ registerEffect m = none ∧ pushedByte m = none ∧
      pulledEffect m = none ∧ branchCond m = none ∧ m ∉ [.jmp, .jsr, .rts, .brk, .rti] := by
  cases m <;> cases h <;> exact ⟨rfl, rfl, rfl, rfl, rfl, rfl, by decide⟩

/-- An instruction whose mnemonic reads an operand byte has the immediate form or a memory form. -/
theorem Shape.read_cases {i : Instr} {e : State → Result State} {f : Byte → State → State} (h : Shape i e)
    (hf : readEffect i.mnemonic = some f) :
    (∃ base b, e = Machine.readImm base f b) ∨ ∃ base o, e = Machine.readMem base f o := by
  have other := readEffect_only hf
  cases h with
  | readImm hg base b he => cases hf.symm.trans hg; exact .inl ⟨base, b, he⟩
  | readMem hg base o he => cases hf.symm.trans hg; exact .inr ⟨base, o, he⟩
  | _ => simp_all  -- the shape's own table has no row for the mnemonic

end Sys2Proof.Machine
end

section
/-! PROOFS. What the CPU's part of a step can do to the rest of the machine: registers aside, it makes bus reads and bus
writes, and these come to six operations. A property those six keep is kept by every instruction, by the fetch and by the
NMI entry. -/

namespace Sys2Proof.Machine

/-- What lies behind the bus: memory, cartridge, devices, clock and parameters. -/
def State.bus (s : State) : Memory 8 × Cartridge × Ppu × Joypad × Clock × Params :=
  (s.ram, s.cart, s.ppu, s.joy, s.clk, s.params)

@[simp] theorem setA_bus (v : Byte) (s : State) : (s.setA v).bus = s.bus := rfl
@[simp] theorem setX_bus (v : Byte) (s : State) : (s.setX v).bus = s.bus := rfl
@[simp] theorem setY_bus (v : Byte) (s : State) : (s.setY v).bus = s.bus := rfl
@[simp] theorem setSp_bus (v : Byte) (s : State) : (s.setSp v).bus = s.bus := rfl
@[simp] theorem setPc_bus (v : Word) (s : State) : (s.setPc v).bus = s.bus := rfl
@[simp] theorem setP_bus (v : Byte) (s : State) : (s.setP v).bus = s.bus := rfl
@[simp] theorem setCyc_bus (v : Nat) (s : State) : (s.setCyc v).bus = s.bus := rfl
@[simp] theorem setNmiPending_bus (v : Bool) (s : State) : (s.setNmiPending v).bus = s.bus := rfl
@[simp] theorem advance_bus (n : Nat) (s : State) : (advance n s).bus = s.bus := rfl

@[simp] theorem pull_bus (s : State) : (pull s).2.bus = s.bus := by rw [pull_eq]; rfl
@[simp] theorem pullWord_bus (s : State) : (pullWord s).2.bus = s.bus := by rw [pullWord_eq]; rfl
@[simp] theorem returnFromHandler_bus (s : State) : (returnFromHandler s).bus = s.bus := by
  rw [returnFromHandler_eq]; rfl

theorem busTarget_ram_lt {addr : Word} {cell : Nat} (h : busTarget addr = .ram cell) : cell < 2048 := by
  have hlt : (addr &&& 0x07FF).toNat < 2048 := by
    have := Nat.and_le_right (n := addr.toNat) (m := 2047)
    rw [BitVec.toNat_and]; simp; omega
  unfold busTarget at h
  split_ifs at h
  cases h
  exact hlt

/-- A property that the CPU's registers do not enter and that no bus access breaks. -/
structure BusInvariant (P : State → Prop) : Prop where
  registers : ∀ {s t : State}, P s → t.bus = s.bus → P t
  portRead : ∀ {s : State} (k : BitVec 3), P s → P (s.setPpu (s.ppu.portRead s.cart k).2)
  joyRead : ∀ {s : State}, P s → P (s.setJoy (s.joy.read s.params).2)
  ramWrite : ∀ {s : State} {cell : Nat} (v : Byte), cell < 2048 → P s → P (s.setRam (s.ram.write cell v))
  portWrite : ∀ {s : State} (k : BitVec 3) (v : Byte), P s → P (portWrite k v s)
  joyWrite : ∀ {s : State} (v : Byte), P s → P (s.setJoy (s.joy.write v))
  oamPut : ∀ {s : State} (i : Nat) (b : Byte), P s → P (oamDmaPut i b s)

/-- What every bus read keeps, a fetch keeps. -/
theorem fetch_keeps {P : State → Prop} (read : ∀ (a : Word) (s : State), P s → P (busRead a s).2) {s : State}
    (h : P s) : P (fetch s).2 := by
  have h1 := read s.pc s h
  simp only [fetch]
  split
  · exact h1
  · exact h1
  · exact read _ _ h1
  · exact read _ _ (read _ _ h1)

theorem readEffect_bus {m : Mnemonic} {f : Byte → State → State} (h : readEffect m = some f) (b : Byte) (s : State) :
    (f b s).bus = s.bus := by
  unfold readEffect at h; split at h <;> cases h <;> rfl

theorem registerEffect_bus {m : Mnemonic} {f : State → State} (h : registerEffect m = some f) (s : State) :
    (f s).bus = s.bus := by
  unfold registerEffect at h; split at h <;> cases h <;> rfl

theorem pulledEffect_bus {m : Mnemonic} {f : Byte → State → State} (h : pulledEffect m = some f) (b : Byte)
    (s : State) : (f b s).bus = s.bus := by
  unfold pulledEffect at h; split at h <;> cases h <;> rfl

namespace BusInvariant

variable {P : State → Prop} (hP : BusInvariant P) {s t : State}
include hP

theorem busRead (addr : Word) (hs : P s) : P (busRead addr s).2 := by
  unfold Machine.busRead
  split
  case h_2 => exact hP.portRead _ hs
  case h_4 => exact hP.joyRead hs
  all_goals exact hs

theorem oamDmaCopy (page : Byte) (n i : Nat) (hs : P s) : P (oamDmaCopy page n i s) := by
  induction n generalizing i s with
  | zero => exact hs
  | succ n ih => exact ih (i + 1) (hP.oamPut i _ (hP.busRead _ hs))

theorem busWrite (addr : Word) (v : Byte) (hs : P s) : P (busWrite addr v s) := by
  unfold Machine.busWrite
  split
  case h_1 h => exact hP.ramWrite v (busTarget_ram_lt h) hs
  case h_2 => exact hP.portWrite _ v hs
  case h_3 => exact hP.registers (hP.oamDmaCopy v 256 0 hs) (setCyc_bus _ _)
  case h_4 => exact hP.joyWrite v hs
  all_goals exact hs

theorem push (v : Byte) (hs : P s) : P (push v s) :=
  hP.registers (hP.busWrite (stackAddr s.sp) v hs) (by simp [Machine.push])

theorem readPair (lo hi : Word) (hs : P s) : P (readPair lo hi s).2 := hP.busRead hi (hP.busRead lo hs)

theorem enterHandler (ret : Word) (image : Byte) (vector : Word) (hs : P s) :
    P (enterHandler ret image vector s) := by
  have pushed : P (Machine.push image (pushWord ret s)) := hP.push _ (hP.push _ (hP.push _ hs))
  exact hP.registers (hP.readPair vector (vector + 1) (hP.registers pushed (setP_bus _ _))) (setPc_bus _ _)

/-- No instruction breaks the property. -/
theorem exec {i : Instr} (hs : P s) (h : exec i s = .next t) : P t := by
  have withCyc : ∀ n, P (s.setCyc n) := fun n => hP.registers hs (setCyc_bus n s)
  cases exec_shape i with
  | readImm hf base b he =>
    rw [he] at h; cases h
    exact hP.registers hs (by simp [readEffect_bus hf])
  | readMem hf base o he =>
    rw [he, readMem_eq] at h; cases h
    exact hP.registers (hP.busRead (resolve o s).1.addr hs) (by simp [readEffect_bus hf])
  | store hv base o he =>
    simp only [he, storeMem_eq] at h; cases h
    exact hP.registers (hP.busWrite _ _ (withCyc base)) (advance_bus _ _)
  | modifyMem hf base o he =>
    rw [he, modifyMem_eq] at h; cases h
    have read := hP.registers (hP.busRead (resolve o s).1.addr hs) (setCyc_bus base _)
    exact hP.registers (hP.registers (hP.busWrite _ _ read) (setP_bus _ _)) (advance_bus _ _)
  | modifyAcc hf ho hm base he => rw [he] at h; cases h; exact hP.registers hs (by simp)
  | register hf base he => rw [he] at h; cases h; exact hP.registers hs (by simp [registerEffect_bus hf])
  | push hv base he => rw [he] at h; cases h; exact hP.registers (hP.push _ (withCyc base)) (advance_bus _ _)
  | pull hf base he => rw [he] at h; cases h; exact hP.registers hs (by simp [pulledEffect_bus hf])
  | branch hc off he =>
    simp only [he, branchIf] at h
    split at h <;> cases h <;> exact hP.registers hs (by simp)
  | jmpAbs hm w he => rw [he] at h; cases h; exact hP.registers hs (by simp)
  | jmpInd hm w he =>
    rw [he] at h; cases h
    have read : P (memRead16bug w s).2 := hP.readPair _ _ hs
    exact hP.registers read (by simp)
  | jsr hm w he => rw [he] at h; cases h; exact hP.registers (hP.push _ (hP.push _ (withCyc 6))) (setPc_bus _ _)
  | rts hm he => rw [he] at h; cases h; exact hP.registers hs (by simp)
  | brk hm he => rw [he] at h; cases h; exact hP.enterHandler _ _ _ (withCyc 7)
  | rti hm he => rw [he] at h; cases h; exact hP.registers hs (by simp)

/-- No CPU step breaks the property. -/
theorem cpuStep (hs : P s) (h : cpuStep s = .next t) : P t := by
  unfold Machine.cpuStep at h
  split at h
  · cases h; exact hP.enterHandler _ _ _ (hP.registers hs (by simp))
  · have hf : P (fetch s).2 := fetch_keeps (fun a _ hu => hP.busRead a hu) hs
    split at h
    · next hi => rw [hi] at hf; exact hP.exec hf h
    · cases h

end BusInvariant

/-- A step that answers a next state is a CPU step with what follows it (49_master_clock.md R326). -/
theorem step_next {s t : State} (h : step s = .next t) : ∃ u, cpuStep s = .next u ∧ t = endStep u := by
  unfold step clockStep at h
  split at h
  · cases h
  · split at h <;> cases h
    next u hu => exact ⟨u, hu, rfl⟩

end Sys2Proof.Machine
end

section
/-! PROOFS. No step changes the configuration: the cartridge but for pattern RAM, the OPEN parameters, the button mask. -/

namespace Sys2Proof.Machine

/-- `t` has the configuration of `s`. -/
structure SameConfig (s t : State) : Prop where
  prg : t.cart.prg = s.cart.prg
  prgSize : t.cart.prgSize = s.cart.prgSize
  mapper : t.cart.mapper = s.cart.mapper
  mirroring : t.cart.mirroring = s.cart.mirroring
  chrIsRam : t.cart.chrIsRam = s.cart.chrIsRam
  chr : s.cart.chrIsRam = false → t.cart.chr = s.cart.chr
  params : t.params = s.params
  buttons : t.joy.buttons = s.joy.buttons

theorem SameConfig.refl (s : State) : SameConfig s s := ⟨rfl, rfl, rfl, rfl, rfl, fun _ => rfl, rfl, rfl⟩

theorem SameConfig.congr {s t u : State} (h : SameConfig s t) (hc : u.cart = t.cart) (hp : u.params = t.params)
    (hb : u.joy.buttons = t.joy.buttons) : SameConfig s u := by
  obtain ⟨h1, h2, h3, h4, h5, h6, h7, h8⟩ := h
  constructor <;> simpa only [hc, hp, hb]

/-- A PPU-bus write changes pattern RAM only (20_memory.md R75). -/
theorem SameConfig.ppuWrite {s t : State} (h : SameConfig s t) (a : PpuAddr) (v : Byte) :
    SameConfig s (t.setCart (t.cart.ppuWrite a v)) := by
  unfold Cartridge.ppuWrite
  split
  · next hw =>
    have hram : s.cart.chrIsRam = true := by rw [← h.chrIsRam]; simp at hw; exact hw.2
    exact { h with chr := fun hrom => by simp [hram] at hrom }
  · exact h.congr rfl rfl rfl

theorem joypadRead_buttons (q : Params) (j : Joypad) : (j.read q).2.buttons = j.buttons := by
  unfold Joypad.read; split_ifs <;> rfl

theorem joypadWrite_buttons (v : Byte) (j : Joypad) : (j.write v).buttons = j.buttons := by
  unfold Joypad.write; split_ifs <;> rfl

theorem SameConfig.portWrite {s t : State} (h : SameConfig s t) (k : BitVec 3) (v : Byte) :
    SameConfig s (portWrite k v t) := by
  unfold Machine.portWrite
  simp only []
  split
  case h_8 =>
    exact (SameConfig.ppuWrite (h.congr rfl rfl rfl : SameConfig s (t.setPpu _)) _ v).congr rfl rfl rfl
  all_goals exact h.congr rfl rfl rfl

theorem sameConfig_busInvariant (s : State) : BusInvariant (SameConfig s) where
  registers h hb := by
    simp only [State.bus, Prod.mk.injEq] at hb
    obtain ⟨-, hcart, -, hjoy, -, hparams⟩ := hb
    exact h.congr hcart hparams (by rw [hjoy])
  portRead _ h := h.congr rfl rfl rfl
  joyRead {u} h := h.congr rfl rfl (joypadRead_buttons u.params u.joy)
  ramWrite _ _ h := h.congr rfl rfl rfl
  portWrite k v h := h.portWrite k v
  joyWrite v h := h.congr rfl rfl (joypadWrite_buttons v _)
  oamPut _ _ h := h.congr rfl rfl rfl

end Sys2Proof.Machine

namespace Sys2Proof.Proofs
open Sys2Proof.Machine

/-- Settles O36: the configuration of the state before is a property no bus access breaks, and neither the dots nor the
NMI hand-over touch it. -/
theorem stepLeavesTheConfiguration : Obligations.StepLeavesTheConfiguration := by
  intro s t h
  obtain ⟨u, hu, rfl⟩ := step_next h
  have hc : SameConfig s u := (sameConfig_busInvariant s).cpuStep (.refl s) hu
  have he : SameConfig s (endStep u) := hc.congr (by simp) (by simp) (by simp)
  exact ⟨he.prg, he.prgSize, he.mapper, he.mirroring, he.chrIsRam, he.chr, he.params, he.buttons⟩

end Sys2Proof.Proofs
end

section
/-! PROOFS. Reset and power-on. -/

namespace Sys2Proof.Machine

/-- `reset()` whole (70_reset_and_hazards.md R371, R372): the reset vector lies in program ROM, so reading it has no side
effect. -/
theorem hostReset_eq (s : State) :
    s.hostReset =
      { s with
        a := 0, x := 0, y := 0, sp := 0xFD, p := 0x24, nmiPending := false
        pc := word (peek 0xFFFC s) (peek 0xFFFD s) } := by
  rw [peek, peek, busRead_prg (by decide), busRead_prg (by decide), State.hostReset,
    memRead16_prg (by decide) (by decide)]
  rfl

/-- Power-on whole (R370): the table values of 10_state.md R49, and PC from the cartridge's reset vector. -/
theorem powerOn_eq (c : Cartridge) :
    State.powerOn c =
      { State.reset with
        cart := c
        pc := word (c.prg.read (mapPrg c.prgSize 0xFFFC)) (c.prg.read (mapPrg c.prgSize 0xFFFD)) } := by
  rw [State.powerOn, State.powerOnWith, hostReset_eq, peek, peek, busRead_prg (by decide), busRead_prg (by decide)]
  rfl

end Sys2Proof.Machine

namespace Sys2Proof.Proofs
open Sys2Proof.Machine

/-- Settles O56: both clauses are read off the two equations above. -/
theorem resetAndPowerOnGiveTheTableValues : Obligations.ResetAndPowerOnGiveTheTableValues := by
  refine ⟨hostReset_eq, fun c => ?_⟩
  have pc : (State.powerOn c).pc = word (peek 0xFFFC (State.powerOn c)) (peek 0xFFFD (State.powerOn c)) := by
    rw [peek, peek, busRead_prg (by decide), busRead_prg (by decide), powerOn_eq]
  rw [powerOn_eq] at pc ⊢
  exact ⟨rfl, rfl, rfl, rfl, rfl, rfl, rfl, pc, rfl, rfl, rfl, fun _ => ⟨rfl, rfl, rfl, rfl, rfl, rfl, rfl, rfl, rfl, rfl⟩,
    rfl, rfl, rfl, rfl, rfl, rfl⟩

/-- Settles O59: every array of the state after reset is empty. -/
theorem resetMeetsTheInvariant : Obligations.ResetMeetsTheInvariant where
  memory := ⟨rfl, rfl, rfl, rfl, rfl, rfl, rfl, rfl, rfl, rfl, rfl, rfl⟩
  status := by decide
  raster := ⟨by decide, by decide⟩
  sprites := by decide
  joypad := by decide
  clock := rfl
  handedOver := rfl

end Sys2Proof.Proofs
end

section
/-! PROOFS. No instruction changes a flag or register it is not listed for (10_state.md R20, R22, R24): which bits of P each
operation of the ALU can change, then one case a shape. -/

namespace Sys2Proof.Machine
open Sys2Proof.Spec

/-! The bits of P each operation can change -/

theorem setFlag_onlyFlags {k : Nat} (hk : k < 8) (b : Bool) (p : Byte) : OnlyFlags [k] p (setFlag k b p) := by
  intro j hj
  have h := flag_setFlag j k b p hk
  rwa [if_neg (by simpa using hj)] at h

theorem setZN_onlyFlags (v p : Byte) : OnlyFlags [1, 7] p (setZN v p) := by
  intro j hj
  simpa [flag, bitN, bitZ, show j ≠ 1 ∧ j ≠ 7 by simpa using hj] using flag_setZN j v p

theorem shift_onlyFlags (r p : Byte) (c : Bool) : OnlyFlags [0, 1, 7] p (setZN r (setFlag bitC c p)) := by
  intro j hj
  simpa [flag, bitN, bitZ, bitC, show j ≠ 0 ∧ j ≠ 1 ∧ j ≠ 7 by simpa using hj] using flag_shift j r p c

theorem compareP_onlyFlags (r m p : Byte) : OnlyFlags [0, 1, 7] p (compareP r m p) := by
  intro j hj
  simpa [flag, bitN, bitZ, bitC, show j ≠ 0 ∧ j ≠ 1 ∧ j ≠ 7 by simpa using hj] using flag_compareP j r m p

theorem bitP_onlyFlags (a m p : Byte) : OnlyFlags [1, 6, 7] p (bitP a m p) := by
  intro j hj
  simpa [flag, bitN, bitZ, bitV, show j ≠ 1 ∧ j ≠ 6 ∧ j ≠ 7 by simpa using hj] using flag_bitP j a m p

theorem adc_onlyFlags (a m p : Byte) : OnlyFlags [0, 1, 6, 7] p (adc a m p).2 := by
  intro j hj
  simpa [flag, bitN, bitZ, bitV, bitC, show j ≠ 0 ∧ j ≠ 1 ∧ j ≠ 6 ∧ j ≠ 7 by simpa using hj] using flag_adc j a m p

/-- A pulled P differs from a P with B = 0 and U = 1 in the six flags only (R23). -/
theorem pulledP_onlyFlags {p : Byte} (h : statusOk p = true) (b : Byte) : OnlyFlags [0, 1, 2, 3, 6, 7] p (pulledP b) := by
  intro j hj
  obtain ⟨hB, hU⟩ : p.getLsbD 4 = false ∧ p.getLsbD 5 = true := by simpa [statusOk, flag, bitB, bitU] using h
  by_cases hj8 : j < 8
  · have hj45 : j = 4 ∨ j = 5 := by simp at hj; omega
    have hf := flag_pulledP j b hj8
    rcases hj45 with rfl | rfl
    · exact hf.trans hB.symm
    · exact hf.trans hU.symm
  · rw [BitVec.getLsbD_of_ge _ _ (by omega), BitVec.getLsbD_of_ge _ _ (by omega)]

/-! The rule -/

/-- Where P goes from `p` to `q`, every bit that changes is one R24 lists `m` for. -/
def FlagsListed (m : Mnemonic) (p q : Byte) : Prop :=
  statusOk p = true → ∀ k, q.getLsbD k ≠ p.getLsbD k → m ∈ flagWriters k

theorem FlagsListed.refl (m : Mnemonic) (p : Byte) : FlagsListed m p p := fun _ _ h => absurd rfl h

theorem FlagsListed.of_onlyFlags {m : Mnemonic} {ks : List Nat} {p q : Byte} (h : statusOk p = true → OnlyFlags ks p q)
    (hm : ∀ k ∈ ks, m ∈ flagWriters k) : FlagsListed m p q :=
  fun hp k hk => hm k (by by_contra hks; exact hk (h hp k hks))

/-- Every register that differs from `s` to `t` is one that R20, R22 and R24 list the mnemonic `m` with operand `o` for. -/
structure OnlyListed (m : Mnemonic) (o : Operand) (s t : State) : Prop where
  p : FlagsListed m s.p t.p
  a : t.a ≠ s.a → m ∈ [.lda, .txa, .tya, .pla, .adc, .sbc, .and, .ora, .eor] ∨ (o = .acc ∧ m ∈ [.asl, .lsr, .rol, .ror])
  x : t.x ≠ s.x → m ∈ [.ldx, .tax, .tsx, .inx, .dex]
  y : t.y ≠ s.y → m ∈ [.ldy, .tay, .iny, .dey]
  sp : t.sp ≠ s.sp → m ∈ [.pha, .php, .pla, .plp, .txs, .jsr, .rts, .brk, .rti]

/-- The registers the rule speaks of. -/
def State.regs (s : State) : Byte × Byte × Byte × Byte × Byte := (s.a, s.x, s.y, s.sp, s.p)

@[simp] theorem setPc_regs (v : Word) (s : State) : (s.setPc v).regs = s.regs := rfl
@[simp] theorem setCyc_regs (v : Nat) (s : State) : (s.setCyc v).regs = s.regs := rfl
@[simp] theorem advance_regs (n : Nat) (s : State) : (advance n s).regs = s.regs := rfl
@[simp] theorem busRead_regs (addr : Word) (s : State) : (busRead addr s).2.regs = s.regs := by simp [State.regs]
@[simp] theorem busWrite_regs (addr : Word) (v : Byte) (s : State) : (busWrite addr v s).regs = s.regs := by
  simp [State.regs]

namespace OnlyListed

variable {m : Mnemonic} {o : Operand} {s t s' t' : State}

/-- The rule looks at the registers only. -/
theorem congr (h : OnlyListed m o s t) (hs : s'.regs = s.regs) (ht : t'.regs = t.regs) : OnlyListed m o s' t' := by
  simp only [State.regs, Prod.mk.injEq] at hs ht
  obtain ⟨ha, hx, hy, hsp, hp⟩ := hs
  obtain ⟨ha', hx', hy', hsp', hp'⟩ := ht
  exact ⟨by rw [hp, hp']; exact h.p, by rw [ha, ha']; exact h.a, by rw [hx, hx']; exact h.x,
    by rw [hy, hy']; exact h.y, by rw [hsp, hsp']; exact h.sp⟩

theorem refl (m : Mnemonic) (o : Operand) (s : State) : OnlyListed m o s s :=
  ⟨.refl m s.p, absurd rfl, absurd rfl, absurd rfl, absurd rfl⟩

theorem setP {q : Byte} (hp : FlagsListed m s.p q) : OnlyListed m o s (s.setP q) :=
  { refl m o s with p := hp }

theorem setA {v q : Byte} (hm : m ∈ [.lda, .txa, .tya, .pla, .adc, .sbc, .and, .ora, .eor]) (hp : FlagsListed m s.p q) :
    OnlyListed m o s ((s.setA v).setP q) :=
  { refl m o s with p := hp, a := fun _ => .inl hm }

theorem setAccumulator {v q : Byte} (ho : o = .acc) (hm : m ∈ [.asl, .lsr, .rol, .ror]) (hp : FlagsListed m s.p q) :
    OnlyListed m o s ((s.setA v).setP q) :=
  { refl m o s with p := hp, a := fun _ => .inr ⟨ho, hm⟩ }

theorem setX {v q : Byte} (hm : m ∈ [.ldx, .tax, .tsx, .inx, .dex]) (hp : FlagsListed m s.p q) :
    OnlyListed m o s ((s.setX v).setP q) :=
  { refl m o s with p := hp, x := fun _ => hm }

theorem setY {v q : Byte} (hm : m ∈ [.ldy, .tay, .iny, .dey]) (hp : FlagsListed m s.p q) :
    OnlyListed m o s ((s.setY v).setP q) :=
  { refl m o s with p := hp, y := fun _ => hm }

/-- An instruction listed for S leaves A, X and Y. -/
theorem stack (hm : m ∈ [.pha, .php, .pla, .plp, .txs, .jsr, .rts, .brk, .rti]) (ha : t.a = s.a) (hx : t.x = s.x)
    (hy : t.y = s.y) (hp : FlagsListed m s.p t.p) : OnlyListed m o s t :=
  ⟨hp, (absurd ha ·), (absurd hx ·), (absurd hy ·), fun _ => hm⟩

end OnlyListed

/-! The effects of the shapes -/

theorem setZN_listed {m : Mnemonic} (v p : Byte) (hm : ∀ k ∈ [1, 7], m ∈ flagWriters k) : FlagsListed m p (setZN v p) :=
  .of_onlyFlags (fun _ => setZN_onlyFlags v p) hm

theorem setFlag_listed {m : Mnemonic} {k : Nat} (hk : k < 8) (b : Bool) (p : Byte) (hm : m ∈ flagWriters k) :
    FlagsListed m p (setFlag k b p) :=
  .of_onlyFlags (fun _ => setFlag_onlyFlags hk b p) (by simpa using hm)

theorem compareP_listed {m : Mnemonic} (r b p : Byte) (hm : ∀ k ∈ [0, 1, 7], m ∈ flagWriters k) :
    FlagsListed m p (compareP r b p) :=
  .of_onlyFlags (fun _ => compareP_onlyFlags r b p) hm

theorem pulledP_listed {m : Mnemonic} (b p : Byte) (hm : ∀ k ∈ [0, 1, 2, 3, 6, 7], m ∈ flagWriters k) :
    FlagsListed m p (pulledP b) :=
  .of_onlyFlags (fun hp => pulledP_onlyFlags hp b) hm

theorem adc_listed {m : Mnemonic} (a b p : Byte) (hm : ∀ k ∈ [0, 1, 6, 7], m ∈ flagWriters k) :
    FlagsListed m p (adc a b p).2 :=
  .of_onlyFlags (fun _ => adc_onlyFlags a b p) hm

theorem readEffect_listed {m : Mnemonic} {f : Byte → State → State} (h : readEffect m = some f) (o : Operand) (b : Byte)
    (s : State) : OnlyListed m o s (f b s) := by
  cases m <;> cases h
  case lda | and | ora | eor => exact .setA (by decide) (setZN_listed _ _ (by simp [flagWriters]))
  case ldx => exact .setX (by decide) (setZN_listed _ _ (by simp [flagWriters]))
  case ldy => exact .setY (by decide) (setZN_listed _ _ (by simp [flagWriters]))
  case adc | sbc => exact .setA (by decide) (adc_listed _ _ _ (by simp [flagWriters]))
  case cmp | cpx | cpy => exact .setP (compareP_listed _ _ _ (by simp [flagWriters]))
  case bit => exact .setP (.of_onlyFlags (fun _ => bitP_onlyFlags _ _ _) (by simp [flagWriters]))

theorem modifyEffect_listed {m : Mnemonic} {f : Byte → Byte → Byte × Byte} (h : modifyEffect m = some f) (b p : Byte) :
    FlagsListed m p (f b p).2 := by
  cases m <;> cases h
  case inc | dec => exact setZN_listed _ _ (by simp [flagWriters])
  case asl | lsr | rol | ror => exact .of_onlyFlags (fun _ => shift_onlyFlags _ _ _) (by simp [flagWriters])

theorem registerEffect_listed {m : Mnemonic} {f : State → State} (h : registerEffect m = some f) (o : Operand)
    (s : State) : OnlyListed m o s (f s) := by
  cases m <;> cases h
  case tax | tsx | inx | dex => exact .setX (by decide) (setZN_listed _ _ (by simp [flagWriters]))
  case tay | iny | dey => exact .setY (by decide) (setZN_listed _ _ (by simp [flagWriters]))
  case txa | tya => exact .setA (by decide) (setZN_listed _ _ (by simp [flagWriters]))
  case txs => exact .stack (by decide) rfl rfl rfl (.refl _ _)
  case clc | sec | cli | sei | cld | sed | clv => exact .setP (setFlag_listed (by decide) _ _ (by simp [flagWriters, bitC, bitI, bitD, bitV]))
  case nop => exact .refl _ _ s

theorem pulledEffect_listed {m : Mnemonic} {f : Byte → State → State} (h : pulledEffect m = some f) (o : Operand)
    (s : State) : OnlyListed m o s (f (pull s).1 (pull s).2) := by
  rw [pull_eq]
  cases m <;> cases h
  case pla =>
    exact { OnlyListed.setA (s := s) (by decide) (setZN_listed _ _ (by simp [flagWriters])) with sp := fun _ => by decide }
  case plp => exact .stack (by decide) rfl rfl rfl (pulledP_listed _ _ (by simp [flagWriters]))

theorem pushedByte_listed {m : Mnemonic} {v : State → Byte} (h : pushedByte m = some v) :
    m ∈ [.pha, .php, .pla, .plp, .txs, .jsr, .rts, .brk, .rti] := by
  cases m <;> cases h <;> decide

/-- Every instruction follows the rule. -/
theorem exec_onlyListed {i : Instr} {s t : State} (h : exec i s = .next t) : OnlyListed i.mnemonic i.operand s t := by
  cases exec_shape i with
  | readImm hf base b he =>
    rw [he] at h; cases h
    exact (readEffect_listed hf _ b (s.setCyc base)).congr rfl rfl
  | readMem hf base o he =>
    rw [he, readMem_eq] at h; cases h
    exact (readEffect_listed hf _ _ _).congr (by simp) (advance_regs _ _)
  | store hv base o he =>
    simp only [he, storeMem_eq] at h; cases h
    exact (OnlyListed.refl _ _ s).congr rfl (by simp)
  | modifyMem hf base o he =>
    rw [he, modifyMem_eq] at h; cases h
    exact (OnlyListed.setP (s := s) (modifyEffect_listed hf (busRead (resolve o s).1.addr s).1 _)).congr rfl
      (by rw [advance_regs]; simp [State.regs])
  | modifyAcc hf ho hm base he =>
    rw [he] at h; cases h
    exact (OnlyListed.setAccumulator (s := s) ho hm (modifyEffect_listed hf _ _)).congr rfl rfl
  | register hf base he =>
    rw [he] at h; cases h
    exact (registerEffect_listed hf _ (s.setCyc base)).congr rfl rfl
  | push hv base he =>
    rw [he] at h; cases h
    simp only [push_eq]
    exact .stack (pushedByte_listed hv) rfl rfl rfl (.refl _ _)
  | pull hf base he =>
    rw [he] at h; cases h
    exact (pulledEffect_listed hf _ (s.setCyc base)).congr rfl rfl
  | branch hc off he =>
    simp only [he, branchIf] at h
    split at h <;> cases h <;> exact (OnlyListed.refl _ _ s).congr rfl rfl
  | jmpAbs hm w he => rw [he] at h; cases h; exact (OnlyListed.refl _ _ s).congr rfl rfl
  | jmpInd hm w he =>
    rw [he] at h; cases h
    exact (OnlyListed.refl _ _ s).congr rfl (by simp [memRead16bug, readPair])
  | jsr hm w he =>
    rw [he] at h; cases h
    rw [pushWord_eq]
    exact .stack (by rw [hm]; decide) rfl rfl rfl (.refl _ _)
  | rts hm he =>
    rw [he, execRts, pullWord_eq] at h; cases h
    exact .stack (by rw [hm]; decide) rfl rfl rfl (.refl _ _)
  | brk hm he =>
    rw [he, execBrk, enterHandler_eq (by decide) (by decide)] at h; cases h
    exact .stack (by rw [hm]; decide) rfl rfl rfl (setFlag_listed (by decide) _ _ (by simp [hm, flagWriters, bitI]))
  | rti hm he =>
    rw [he, execRti, returnFromHandler_eq] at h; cases h
    exact .stack (by rw [hm]; decide) rfl rfl rfl (pulledP_listed _ _ (by simp [hm, flagWriters]))

end Sys2Proof.Machine

namespace Sys2Proof.Proofs
open Sys2Proof.Machine

/-- Settles O32, by the shapes of the instructions. -/
theorem onlyListedInstructionsWriteAFlagOrRegister : Obligations.OnlyListedInstructionsWriteAFlagOrRegister := by
  intro i s t h
  have hl := exec_onlyListed h
  exact ⟨hl.p, hl.a, hl.x, hl.y, hl.sp⟩

end Sys2Proof.Proofs
end

section
/-! PROOFS. What cannot reach a result (R44, R150, R332): every instruction overwrites the last cycle count before it
matters and carries the clock's counters along unread; the adder reads every bit of P but D. -/

namespace Sys2Proof.Machine

/-! The clock's counters behind the bus -/

theorem setCyc_setClk (n : Nat) (k : Clock) (s : State) : (s.setClk k).setCyc n = (s.setCyc n).setClk k := rfl

theorem busRead_setClk (addr : Word) (k : Clock) (s : State) :
    busRead addr (s.setClk k) = ((busRead addr s).1, (busRead addr s).2.setClk k) := by
  unfold busRead
  cases busTarget addr <;> rfl

theorem oamDmaCopy_setClk (page : Byte) (k : Clock) (n i : Nat) (s : State) :
    oamDmaCopy page n i (s.setClk k) = (oamDmaCopy page n i s).setClk k := by
  induction n generalizing i s with
  | zero => rfl
  | succ n ih =>
    simp only [oamDmaCopy, busRead_setClk]
    exact ih (i + 1) (oamDmaPut i (busRead (page ++ BitVec.ofNat 8 i) s).1 (busRead (page ++ BitVec.ofNat 8 i) s).2)

theorem portWrite_setClk (port : BitVec 3) (v : Byte) (k : Clock) (s : State) :
    portWrite port v (s.setClk k) = (portWrite port v s).setClk k := by
  unfold portWrite
  generalize port.toNat = n
  simp only []
  split <;> rfl

theorem busWrite_setClk (addr : Word) (v : Byte) (k : Clock) (s : State) :
    busWrite addr v (s.setClk k) = (busWrite addr v s).setClk k := by
  unfold busWrite
  cases busTarget addr with
  | port p => exact portWrite_setClk p v k s
  | dma =>
    simp only [oamDma, oamDmaCopy_setClk]
    rfl
  | _ => rfl

theorem push_setClk (v : Byte) (k : Clock) (s : State) : push v (s.setClk k) = (push v s).setClk k := by
  simp only [push_eq]; rfl

theorem pull_setClk (k : Clock) (s : State) : pull (s.setClk k) = ((pull s).1, (pull s).2.setClk k) := by
  simp only [pull_eq]; rfl

/-- An effective address depends on the index registers and work RAM only. -/
theorem resolve_congr {s t : State} (o : MemOperand) (hx : t.x = s.x) (hy : t.y = s.y) (hr : t.ram = s.ram) :
    (resolve o t).1 = (resolve o s).1 := by
  cases o <;> simp only [resolve, memRead16zp_eq, hx, hy, hr]

theorem resolve_setClk (o : MemOperand) (k : Clock) (s : State) : (resolve o (s.setClk k)).1 = (resolve o s).1 :=
  resolve_congr o rfl rfl rfl

theorem readEffect_setClk {m : Mnemonic} {f : Byte → State → State} (h : readEffect m = some f) (b : Byte) (k : Clock)
    (s : State) : f b (s.setClk k) = (f b s).setClk k := by
  unfold readEffect at h; split at h <;> cases h <;> rfl

theorem registerEffect_setClk {m : Mnemonic} {f : State → State} (h : registerEffect m = some f) (k : Clock)
    (s : State) : f (s.setClk k) = (f s).setClk k := by
  unfold registerEffect at h; split at h <;> cases h <;> rfl

theorem pulledEffect_setClk {m : Mnemonic} {f : Byte → State → State} (h : pulledEffect m = some f) (b : Byte)
    (k : Clock) (s : State) : f b (s.setClk k) = (f b s).setClk k := by
  unfold pulledEffect at h; split at h <;> cases h <;> rfl

theorem storedRegister_setClk {m : Mnemonic} {v : State → Byte} (h : storedRegister m = some v) (k : Clock)
    (s : State) : v (s.setClk k) = v s := by
  unfold storedRegister at h; split at h <;> cases h <;> rfl

theorem pushedByte_setClk {m : Mnemonic} {v : State → Byte} (h : pushedByte m = some v) (k : Clock) (s : State) :
    v (s.setClk k) = v s := by
  unfold pushedByte at h; split at h <;> cases h <;> rfl

theorem branchIf_setClk {c : Bool} {off : Byte} {s t : State} (k : Clock) (h : branchIf c off s = .next t) :
    branchIf c off (s.setClk k) = .next (t.setClk k) := by
  cases c <;> cases h <;> rfl

/-- Every instruction carries the clock's counters along. -/
theorem exec_setClk {i : Instr} {s t : State} (k : Clock) (h : exec i s = .next t) :
    exec i (s.setClk k) = .next (t.setClk k) := by
  cases exec_shape i with
  | readImm hf base b he =>
    rw [he] at h ⊢; cases h
    simp only [readImm, setCyc_setClk, readEffect_setClk hf]; rfl
  | readMem hf base o he =>
    rw [he, readMem_eq] at h ⊢; cases h
    simp only [resolve_setClk, busRead_setClk, setCyc_setClk, readEffect_setClk hf]; rfl
  | store hv base o he =>
    simp only [he, storeMem_eq] at h ⊢; cases h
    simp only [resolve_setClk, storedRegister_setClk hv, setCyc_setClk, busWrite_setClk]; rfl
  | modifyMem hf base o he =>
    rw [he, modifyMem_eq] at h ⊢; cases h
    simp only [resolve_setClk, busRead_setClk, State.setClk_fields, setCyc_setClk, busWrite_setClk]; rfl
  | modifyAcc hf ho hm base he => rw [he] at h ⊢; cases h; rfl
  | register hf base he =>
    rw [he] at h ⊢; cases h
    simp only [implied, setCyc_setClk, registerEffect_setClk hf]; rfl
  | push hv base he =>
    rw [he] at h ⊢; cases h
    simp only [implied, setCyc_setClk, pushedByte_setClk hv, push_setClk]; rfl
  | pull hf base he =>
    rw [he] at h ⊢; cases h
    simp only [implied, setCyc_setClk, pull_setClk, pulledEffect_setClk hf]; rfl
  | branch hc off he => simp only [he] at h ⊢; exact branchIf_setClk k h
  | jmpAbs hm w he => rw [he] at h ⊢; cases h; rfl
  | jmpInd hm w he =>
    rw [he] at h ⊢; cases h
    simp only [execJmpInd, memRead16bug, readPair, busRead_setClk]; rfl
  | jsr hm w he => rw [he] at h ⊢; cases h; simp only [execJsr, pushWord_eq]; rfl
  | rts hm he => rw [he] at h ⊢; cases h; simp only [execRts, pullWord_eq]; rfl
  | brk hm he =>
    rw [he, execBrk, enterHandler_eq (by decide) (by decide)] at h ⊢; cases h; rfl
  | rti hm he => rw [he] at h ⊢; cases h; simp only [execRti, returnFromHandler_eq]; rfl

/-! The last cycle count -/

theorem busRead_setCyc (addr : Word) (n : Nat) (s : State) :
    busRead addr (s.setCyc n) = ((busRead addr s).1, (busRead addr s).2.setCyc n) := by
  unfold busRead
  cases busTarget addr <;> rfl

theorem resolve_setCyc (o : MemOperand) (n : Nat) (s : State) : (resolve o (s.setCyc n)).1 = (resolve o s).1 :=
  resolve_congr o rfl rfl rfl

theorem storedRegister_setCyc {m : Mnemonic} {v : State → Byte} (h : storedRegister m = some v) (n : Nat) (s : State) :
    v (s.setCyc n) = v s := by
  unfold storedRegister at h; split at h <;> cases h <;> rfl

/-- No instruction reads the last cycle count, and each sets its own. -/
theorem exec_setCyc (i : Instr) (n : Nat) (s : State) : exec i (s.setCyc n) = exec i s := by
  cases exec_shape i with
  | readMem hf base o he => rw [he, readMem_eq, readMem_eq, resolve_setCyc, busRead_setCyc]; rfl
  | store hv base o he => simp only [he, storeMem_eq, resolve_setCyc, storedRegister_setCyc hv]; rfl
  | modifyMem hf base o he => rw [he, modifyMem_eq, modifyMem_eq, resolve_setCyc, busRead_setCyc]; rfl
  | branch hc off he => simp only [he, branchIf]; rfl
  | jmpInd hm w he => rw [he, execJmpInd, execJmpInd]; simp only [memRead16bug, readPair, busRead_setCyc]; rfl
  | _ => rename_i he; simp only [he]; rfl

/-! The decimal flag -/

/-- D flipped. -/
def State.flipD (s : State) : State := s.setP (s.p ^^^ 0x08)

theorem setFlag_flipD {k : Nat} (hk : k < 8) (hD : k ≠ bitD) (b : Bool) (p : Byte) :
    setFlag k b (p ^^^ 0x08) = setFlag k b p ^^^ 0x08 := by
  have h8 : ∀ k < 8, k ≠ 3 → (0x08 : Byte).getLsbD k = false := by decide
  apply BitVec.eq_of_getLsbD_eq
  intro j _
  have hf : ∀ q : Byte, (setFlag k b q).getLsbD j = if j = k then b else q.getLsbD j := fun q => flag_setFlag j k b q hk
  rw [hf, BitVec.getLsbD_xor (x := setFlag k b p), hf]
  by_cases hj : j = k
  · rw [if_pos hj, if_pos hj, hj, h8 k hk hD, Bool.xor_false]
  · rw [if_neg hj, if_neg hj, BitVec.getLsbD_xor]

/-- The adder neither reads nor writes D (41_arithmetic.md R150). -/
theorem adc_flipD (a m p : Byte) : adc a m (p ^^^ 0x08) = ((adc a m p).1, (adc a m p).2 ^^^ 0x08) := by
  have hC : flag bitC (p ^^^ 0x08) = flag bitC p := by simp [flag, bitC]
  simp only [adc, hC, setZN, setFlag_flipD (show bitC < 8 by decide) (by decide),
    setFlag_flipD (show bitV < 8 by decide) (by decide), setFlag_flipD (show bitZ < 8 by decide) (by decide),
    setFlag_flipD (show bitN < 8 by decide) (by decide)]

theorem adcA_flipD (m : Byte) (s : State) : adcA m s.flipD = (adcA m s).flipD := by
  have h := adc_flipD s.a m s.p
  unfold adcA State.flipD
  simp only [State.setP_fields, h]
  rfl

theorem sbcA_flipD (m : Byte) (s : State) : sbcA m s.flipD = (sbcA m s).flipD := adcA_flipD (m ^^^ 0xFF) s

theorem setCyc_flipD (n : Nat) (s : State) : s.flipD.setCyc n = (s.setCyc n).flipD := rfl

theorem busRead_flipD (addr : Word) (s : State) :
    busRead addr s.flipD = ((busRead addr s).1, (busRead addr s).2.flipD) := by
  unfold busRead State.flipD
  cases busTarget addr <;> rfl

theorem resolve_flipD (o : MemOperand) (s : State) : (resolve o s.flipD).1 = (resolve o s).1 :=
  resolve_congr o rfl rfl rfl

/-- A form that reads its operand passes a flip of D through its effect. -/
theorem read_flipD {f : Byte → State → State} (hf : ∀ m s, f m s.flipD = (f m s).flipD) {i : Instr} {s t : State}
    (hi : readEffect i.mnemonic = some f) (h : exec i s = .next t) : exec i s.flipD = .next t.flipD := by
  rcases (exec_shape i).read_cases hi with ⟨base, b, he⟩ | ⟨base, o, he⟩
  · rw [he] at h ⊢; cases h
    simp only [readImm, setCyc_flipD, hf]; rfl
  · rw [he, readMem_eq] at h ⊢; cases h
    simp only [resolve_flipD, busRead_flipD, setCyc_flipD, hf]; rfl

end Sys2Proof.Machine

namespace Sys2Proof.Proofs
open Sys2Proof.Machine

/-- Settles O33: ADC and SBC pass a flip of D through the adder; the counters pass through every bus access; the last
cycle count is overwritten first. -/
theorem decimalFlagAndClockReachNoResult : Obligations.DecimalFlagAndClockReachNoResult := by
  intro i s t h
  refine ⟨fun hm => ?_, fun k n => ?_⟩
  · rcases hm with hm | hm
    · exact read_flipD adcA_flipD (by rw [hm]; rfl) h
    · exact read_flipD sbcA_flipD (by rw [hm]; rfl) h
  · exact (exec_setCyc i n (s.setClk k)).trans (exec_setClk k h)

end Sys2Proof.Proofs
end

section
/-! PROOFS. The invariant of the machine. Its parts are kept apart by who writes them: the CPU's bus writes RAM, pattern
RAM, OAM, nametable and palette RAM and the joypad; a dot writes the sprite buffers, the frame buffer and the raster
position. -/

namespace Sys2Proof.Machine

/-! The state the dots own -/

/-- The sprite buffers and the frame buffer. -/
def Ppu.drawn (p : Ppu) : Nat × Memory 8 × Memory 8 × Memory 8 × Memory 8 × Memory 8 × Memory 9 :=
  (p.secCount, p.sec, p.sprLo, p.sprHi, p.sprAttr, p.sprX, p.fb)

/-- What no port access writes of the raster position and the buffers (46_ppu_registers.md R258). -/
def Ppu.dotOwned (p : Ppu) : (Nat × Nat × Nat) × Nat × Memory 8 × Memory 8 × Memory 8 × Memory 8 × Memory 8 × Memory 9 :=
  (p.raster, p.drawn)

theorem portRead_dotOwned (c : Cartridge) (k : BitVec 3) (p : Ppu) : (p.portRead c k).2.dotOwned = p.dotOwned := by
  rw [portRead_changes]; rfl

theorem writeScroll_dotOwned (v : Byte) (p : Ppu) : (p.writeScroll v).dotOwned = p.dotOwned := by
  unfold Ppu.writeScroll; split <;> rfl

theorem writeAddr_dotOwned (v : Byte) (p : Ppu) : (p.writeAddr v).dotOwned = p.dotOwned := by
  unfold Ppu.writeAddr; split <;> rfl

theorem ppuWrite_dotOwned (m : Mirroring) (a : PpuAddr) (v : Byte) (p : Ppu) :
    (p.ppuWrite m a v).dotOwned = p.dotOwned := by
  unfold Ppu.ppuWrite; split_ifs <;> rfl

/-! The parts of the invariant -/

/-- The PPU's arrays that the CPU's ports write are canonical and within size (10_state.md R33, R38, R39). -/
structure Ppu.PortOk (m : Mirroring) (p : Ppu) : Prop where
  oam : p.oam.wf 256 = true
  ntRam : p.ntRam.wf m.ntSize = true
  pal : p.pal.wf 32 = true

/-- The arrays that the dots write are canonical and within size, with at most eight sprites (R34, R43). -/
structure Ppu.DrawnOk (p : Ppu) : Prop where
  count : p.secCount ≤ 8
  sec : p.sec.wf 32 = true
  sprLo : p.sprLo.wf 8 = true
  sprHi : p.sprHi.wf 8 = true
  sprAttr : p.sprAttr.wf 8 = true
  sprX : p.sprX.wf 8 = true
  fb : p.fb.wf 61440 = true

theorem Ppu.DrawnOk.congr {p q : Ppu} (h : p.DrawnOk) (hq : q.drawn = p.drawn) : q.DrawnOk := by
  simp only [Ppu.drawn, Prod.mk.injEq] at hq
  obtain ⟨hcount, hsec, hlo, hhi, hattr, hx, hfb⟩ := hq
  exact ⟨hcount ▸ h.count, hsec ▸ h.sec, hlo ▸ h.sprLo, hhi ▸ h.sprHi, hattr ▸ h.sprAttr, hx ▸ h.sprX, hfb ▸ h.fb⟩

theorem Ppu.rasterOk.congr {p q : Ppu} (h : p.rasterOk) (hq : q.raster = p.raster) : q.rasterOk := by
  simp only [Ppu.raster, Prod.mk.injEq] at hq
  obtain ⟨hline, hdot, -⟩ := hq
  exact ⟨hline ▸ h.1, hdot ▸ h.2⟩

/-- The cartridge's arrays are canonical and within size (R29). -/
structure Cartridge.Ok (c : Cartridge) : Prop where
  prg : c.prg.wf c.prgSize.bytes = true
  chr : c.chr.wf 8192 = true

/-- What the invariant says behind the bus. -/
structure State.DevicesOk (s : State) : Prop where
  ram : s.ram.wf 2048 = true
  cart : s.cart.Ok
  ports : s.ppu.PortOk s.cart.mirroring
  drawn : s.ppu.DrawnOk
  raster : s.ppu.rasterOk
  joypad : s.joy.index ≤ 8
  clock : s.clk.ppuDots = 3 * s.clk.cpuCycles

theorem State.Inv.devices {s : State} (h : s.Inv) : s.DevicesOk where
  ram := h.memory.ram
  cart := ⟨h.memory.prg, h.memory.chr⟩
  ports := ⟨h.memory.oam, h.memory.ntRam, h.memory.pal⟩
  drawn := ⟨h.sprites, h.memory.sec, h.memory.sprLo, h.memory.sprHi, h.memory.sprAttr, h.memory.sprX, h.memory.fb⟩
  raster := h.raster
  joypad := h.joypad
  clock := h.clock

theorem State.DevicesOk.inv {s : State} (h : s.DevicesOk) (hp : statusOk s.p = true) (hn : s.ppu.nmiOut = false) :
    s.Inv where
  memory :=
    { ram := h.ram, prg := h.cart.prg, chr := h.cart.chr, oam := h.ports.oam, ntRam := h.ports.ntRam, pal := h.ports.pal
      sec := h.drawn.sec, sprLo := h.drawn.sprLo, sprHi := h.drawn.sprHi, sprAttr := h.drawn.sprAttr
      sprX := h.drawn.sprX, fb := h.drawn.fb }
  status := hp
  raster := h.raster
  sprites := h.drawn.count
  joypad := h.joypad
  clock := h.clock
  handedOver := hn

/-! The cells written are within the arrays -/

theorem toNat_and_lt {n k : Nat} (x : BitVec n) {m : BitVec n} (h : m.toNat < k) : (x &&& m).toNat < k := by
  rw [BitVec.toNat_and]; exact Nat.lt_of_le_of_lt Nat.and_le_right h

theorem mapChr_lt {a : PpuAddr} (h : a ≤ 0x1FFF) : mapChr a < 8192 := by
  have : a.toNat ≤ 8191 := by simpa [BitVec.le_def] using h
  unfold mapChr; omega

theorem ntIndex_lt (m : Mirroring) (a : PpuAddr) : ntIndex m a < m.ntSize := by
  cases m with
  | vertical => exact toNat_and_lt _ (by decide)
  | fourScreen => exact toNat_and_lt _ (by decide)
  | horizontal =>
    simp only [ntIndex, Mirroring.ntSize, BitVec.toNat_or]
    exact Nat.or_lt_two_pow (n := 11) (toNat_and_lt _ (by decide)) (toNat_and_lt _ (by decide))

theorem palIndex_lt (a : PpuAddr) : palIndex a < 32 := by
  simp only [palIndex]
  split
  · exact toNat_and_lt _ (by decide)
  · exact toNat_and_lt _ (by decide)

/-! The bus keeps them -/

theorem Cartridge.Ok.ppuWrite {c : Cartridge} (h : c.Ok) (a : PpuAddr) (v : Byte) : (c.ppuWrite a v).Ok := by
  unfold Cartridge.ppuWrite
  split
  · next hw =>
    have ha : a ≤ 0x1FFF := by simp at hw; exact hw.1
    exact { h with chr := Memory.wf_write h.chr (mapChr_lt ha) }
  · exact h

theorem ppuWrite_mirroring (c : Cartridge) (a : PpuAddr) (v : Byte) : (c.ppuWrite a v).mirroring = c.mirroring := by
  unfold Cartridge.ppuWrite; split <;> rfl

namespace Ppu.PortOk

variable {m : Mirroring} {p : Ppu}

theorem portRead (h : p.PortOk m) (c : Cartridge) (k : BitVec 3) : (p.portRead c k).2.PortOk m := by
  rw [portRead_changes]; exact ⟨h.oam, h.ntRam, h.pal⟩

theorem ppuWrite (h : p.PortOk m) (a : PpuAddr) (v : Byte) : (p.ppuWrite m a v).PortOk m := by
  unfold Ppu.ppuWrite
  split_ifs
  · exact h
  · exact { h with ntRam := Memory.wf_write h.ntRam (ntIndex_lt m a) }
  · exact { h with pal := Memory.wf_write h.pal (palIndex_lt a) }

theorem writeScroll (h : p.PortOk m) (v : Byte) : (p.writeScroll v).PortOk m := by
  unfold Ppu.writeScroll; split <;> exact ⟨h.oam, h.ntRam, h.pal⟩

theorem writeAddr (h : p.PortOk m) (v : Byte) : (p.writeAddr v).PortOk m := by
  unfold Ppu.writeAddr; split <;> exact ⟨h.oam, h.ntRam, h.pal⟩

theorem oamWrite (h : p.PortOk m) (i v : Byte) : PortOk m { p with oam := p.oam.write i.toNat v } :=
  { h with oam := Memory.wf_write h.oam i.isLt }

end Ppu.PortOk

namespace State.DevicesOk

variable {s : State}

/-- A port access that keeps the port arrays and leaves what the dots own. -/
theorem setPpu {q : Ppu} (h : s.DevicesOk) (hq : q.PortOk s.cart.mirroring) (hd : q.dotOwned = s.ppu.dotOwned) :
    (s.setPpu q).DevicesOk :=
  { h with ports := hq, drawn := h.drawn.congr (congrArg Prod.snd hd), raster := h.raster.congr (congrArg Prod.fst hd) }

theorem setJoy {j : Joypad} (h : s.DevicesOk) (hj : j.index ≤ 8) : (s.setJoy j).DevicesOk := { h with joypad := hj }

theorem ppuWrite (h : s.DevicesOk) (a : PpuAddr) (v : Byte) : (ppuWrite a v s).DevicesOk := by
  have hc : (s.setCart (s.cart.ppuWrite a v)).DevicesOk :=
    { h with cart := h.cart.ppuWrite a v, ports := by simpa [ppuWrite_mirroring] using h.ports }
  refine hc.setPpu ?_ (ppuWrite_dotOwned _ a v s.ppu)
  simpa [ppuWrite_mirroring] using h.ports.ppuWrite a v

theorem portWrite (h : s.DevicesOk) (k : BitVec 3) (v : Byte) : (portWrite k v s).DevicesOk := by
  have hp : Ppu.PortOk s.cart.mirroring { s.ppu with ioLatch := v } := ⟨h.ports.oam, h.ports.ntRam, h.ports.pal⟩
  unfold Machine.portWrite
  simp only []
  split
  case h_5 =>
    have hw := hp.oamWrite s.ppu.oamAddr v
    exact h.setPpu ⟨hw.oam, hw.ntRam, hw.pal⟩ rfl
  case h_6 => exact h.setPpu (hp.writeScroll v) (writeScroll_dotOwned v _)
  case h_7 => exact h.setPpu (hp.writeAddr v) (writeAddr_dotOwned v _)
  case h_8 =>
    have hw := (h.setPpu hp rfl).ppuWrite (Ppu.vramAddr { s.ppu with ioLatch := v }) v
    exact hw.setPpu ⟨hw.ports.oam, hw.ports.ntRam, hw.ports.pal⟩ rfl
  all_goals exact h.setPpu ⟨hp.oam, hp.ntRam, hp.pal⟩ rfl

end State.DevicesOk

theorem joypadRead_index_le (q : Params) {j : Joypad} (h : j.index ≤ 8) : (j.read q).2.index ≤ 8 := by
  unfold Joypad.read
  dsimp only
  split_ifs
  · exact h
  · next hlt => exact hlt
  · exact h

theorem joypadWrite_index_le (v : Byte) {j : Joypad} (h : j.index ≤ 8) : (j.write v).index ≤ 8 := by
  unfold Joypad.write
  split
  · exact Nat.zero_le 8
  · exact h

theorem devicesOk_busInvariant : BusInvariant State.DevicesOk where
  registers {s t} h hb := by
    simp only [State.bus, Prod.mk.injEq] at hb
    obtain ⟨hram, hcart, hppu, hjoy, hclk, -⟩ := hb
    exact ⟨hram ▸ h.ram, hcart ▸ h.cart, by rw [hppu, hcart]; exact h.ports, hppu ▸ h.drawn, hppu ▸ h.raster,
      hjoy ▸ h.joypad, hclk ▸ h.clock⟩
  portRead {s} k h := h.setPpu (h.ports.portRead s.cart k) (portRead_dotOwned s.cart k s.ppu)
  joyRead {s} h := h.setJoy (joypadRead_index_le s.params h.joypad)
  ramWrite _ hc h := { h with ram := Memory.wf_write h.ram hc }
  portWrite k v h := h.portWrite k v
  joyWrite v h := h.setJoy (joypadWrite_index_le v h.joypad)
  oamPut i b h := h.setPpu (h.ports.oamWrite (_ + BitVec.ofNat 8 i) b) rfl

/-! The dots keep them -/

theorem copyEntry_wf {oam sec : Memory 8} {n cnt : Nat} (h : sec.wf 32 = true) (hc : cnt < 8) :
    (copyEntry oam n cnt sec).wf 32 = true :=
  Memory.wf_write (Memory.wf_write (Memory.wf_write (Memory.wf_write h (by omega)) (by omega)) (by omega)) (by omega)

/-- Evaluation counts at most eight sprites and fills the secondary OAM within its 32 bytes (47_ppu_pipeline.md R289). -/
theorem evalPhase1_ok (oam : Memory 8) (h s fuel : Nat) {e : SprEval} (hc : e.cnt ≤ 8) (hs : e.sec.wf 32 = true) :
    (evalPhase1 oam h s fuel e).cnt ≤ 8 ∧ (evalPhase1 oam h s fuel e).sec.wf 32 = true := by
  induction fuel generalizing e with
  | zero => exact ⟨hc, hs⟩
  | succ fuel ih =>
    unfold evalPhase1
    split
    · next hlt =>
      split
      · exact ih hlt.2 (copyEntry_wf hs hlt.2)
      · exact ih hc hs
    · exact ⟨hc, hs⟩

namespace Ppu.DrawnOk

variable {p : Ppu}

theorem evaluateSprites (h : p.DrawnOk) (s : Nat) : (p.evaluateSprites s).DrawnOk := by
  have he := evalPhase1_ok p.oam p.sprHeight s 64 (e := { n := 0, cnt := 0, zero := false, sec := p.sec }) (Nat.zero_le 8)
    h.sec
  exact { h with count := he.1, sec := he.2 }

theorem fetchSprite (h : p.DrawnOk) (c : Cartridge) (s : Nat) {i : Nat} (hi : i < 8) : (p.fetchSprite c s i).DrawnOk :=
  { h with
    sprLo := Memory.wf_write h.sprLo hi
    sprHi := Memory.wf_write h.sprHi hi
    sprAttr := Memory.wf_write h.sprAttr hi
    sprX := Memory.wf_write h.sprX hi }

theorem fetchSprites (h : p.DrawnOk) (c : Cartridge) (s : Nat) {k i : Nat} (hi : i + k ≤ 8) :
    (Ppu.fetchSprites c s k i p).DrawnOk := by
  induction k generalizing i p with
  | zero => exact h
  | succ k ih => exact ih (h.fetchSprite c s (by omega)) (by omega)

theorem spriteLineSetup (h : p.DrawnOk) (c : Cartridge) (s : Nat) : (p.spriteLineSetup c s).DrawnOk := by
  have he := h.evaluateSprites s
  unfold Ppu.spriteLineSetup
  split_ifs
  · exact he.fetchSprites c s (by simpa using he.count)
  · exact { h with count := Nat.zero_le 8 }
  · exact h

theorem outputPixel (h : p.DrawnOk) {x y : Nat} (hx : x < 256) (hy : y < 240) : (p.outputPixel x y).DrawnOk := by
  have hi : fbIndex x y < 61440 := by simp only [fbIndex, Config.fbWidth]; omega
  exact { h with fb := Memory.wf_write h.fb hi }

end Ppu.DrawnOk

theorem fetchSlot_drawn (c : Cartridge) (d : Nat) (p : Ppu) : (p.fetchSlot c d).drawn = p.drawn := by
  unfold Ppu.fetchSlot; split <;> rfl

/-- The background pipeline draws nothing itself. -/
theorem backgroundDot_drawn (c : Cartridge) (s d : Nat) (p : Ppu) : (p.backgroundDot c s d).drawn = p.drawn := by
  have setV : ∀ v (q : Ppu), (q.setV v).drawn = q.drawn := fun _ _ => rfl
  have shift : ∀ q : Ppu, q.shiftBg.drawn = q.drawn := fun _ => rfl
  have reload : ∀ q : Ppu, q.reloadBg.drawn = q.drawn := fun _ => rfl
  simp only [Ppu.backgroundDot, Ppu.copyVertStep, Ppu.copyHorizStep, Ppu.incYStep, Ppu.fetchStep, Ppu.reloadStep,
    Ppu.shiftStep, apply_ite Ppu.drawn, setV, shift, reload, fetchSlot_drawn, ite_self]

namespace Ppu.DrawnOk

variable {p : Ppu}

/-- The work of a dot, sub-step by sub-step (R271). -/
theorem dotWork (h : p.DrawnOk) (c : Cartridge) (s d : Nat) : (p.dotWork c s d).DrawnOk := by
  have h1 : (p.clearStep s d).DrawnOk := by
    unfold Ppu.clearStep; split <;> exact h.congr rfl
  have h2 : ((p.clearStep s d).backgroundStep c s d).DrawnOk := by
    unfold Ppu.backgroundStep; split
    · exact h1.congr (backgroundDot_drawn c s d _)
    · exact h1
  have h3 : (((p.clearStep s d).backgroundStep c s d).spriteStep c s d).DrawnOk := by
    unfold Ppu.spriteStep; split
    · exact h2.spriteLineSetup c s
    · exact h2
  have h4 : ((((p.clearStep s d).backgroundStep c s d).spriteStep c s d).outputStep s d).DrawnOk := by
    unfold Ppu.outputStep; split
    · next hd => exact h3.outputPixel (by omega) hd.1
    · exact h3
  unfold Ppu.dotWork Ppu.vblankStep
  split <;> exact h4.congr rfl

theorem tick (h : p.DrawnOk) (c : Cartridge) : (p.tick c).DrawnOk := by
  have hw := h.dotWork c p.scanline p.dot
  unfold Ppu.tick Ppu.advanceCounters
  split_ifs <;> exact hw.congr rfl

theorem ticks (h : p.DrawnOk) (c : Cartridge) (n : Nat) : (Ppu.ticks c n p).DrawnOk := by
  induction n generalizing p with
  | zero => exact h
  | succ n ih => exact ih (h.tick c)

end Ppu.DrawnOk

theorem rasterOk_tick {p : Ppu} (h : p.rasterOk) (c : Cartridge) : (p.tick c).rasterOk := by
  obtain ⟨hline, hdot⟩ := h
  have hr := tick_raster c p
  simp only [Ppu.raster] at hr
  unfold Ppu.rasterOk
  split_ifs at hr <;> simp only [Prod.mk.injEq] at hr <;> omega

theorem rasterOk_ticks {p : Ppu} (h : p.rasterOk) (c : Cartridge) (n : Nat) : (Ppu.ticks c n p).rasterOk := by
  induction n generalizing p with
  | zero => exact h
  | succ n ih => exact ih (rasterOk_tick h c)

theorem portOk_ticks {m : Mirroring} {p : Ppu} (h : p.PortOk m) (c : Cartridge) (n : Nat) :
    (Ppu.ticks c n p).PortOk m := by
  have ho := ticks_owned c n p
  simp only [Ppu.portOwned, Prod.mk.injEq] at ho
  obtain ⟨-, -, -, hoam, -, -, -, -, -, hnt, hpal⟩ := ho
  exact ⟨hoam ▸ h.oam, hnt ▸ h.ntRam, hpal ▸ h.pal⟩

namespace State.DevicesOk

variable {s : State}

theorem runDots (h : s.DevicesOk) : (runDots s).DevicesOk where
  ram := h.ram
  cart := h.cart
  ports := portOk_ticks h.ports s.cart _
  drawn := h.drawn.ticks s.cart _
  raster := rasterOk_ticks h.raster s.cart _
  joypad := h.joypad
  clock := by
    have hc := h.clock
    simp only [Machine.runDots, State.setClk_fields, Config.ppuPerCpu]
    omega

theorem endStep (h : s.DevicesOk) : (endStep s).DevicesOk := by
  unfold Machine.endStep nmiHandOver
  have hd := h.runDots
  split
  · have handed := hd.setPpu (q := { (Machine.runDots s).ppu with nmiOut := false })
      ⟨hd.ports.oam, hd.ports.ntRam, hd.ports.pal⟩ rfl
    exact devicesOk_busInvariant.registers handed (setNmiPending_bus true _)
  · exact hd

end State.DevicesOk

/-! P between two steps -/

/-- No instruction changes B or U where they are as R23 has them. -/
theorem exec_statusOk {i : Instr} {s t : State} (hs : statusOk s.p = true) (h : exec i s = .next t) :
    statusOk t.p = true := by
  have hp := (exec_onlyListed h).p hs
  have keep : ∀ k, Spec.flagWriters k = [] → t.p.getLsbD k = s.p.getLsbD k := fun k hk => by
    by_contra hne
    simpa [hk] using hp k hne
  simpa [statusOk, flag, keep bitB (by simp [Spec.flagWriters, bitB]), keep bitU (by simp [Spec.flagWriters, bitU])]
    using hs

theorem fetch_p (s : State) : (fetch s).2.p = s.p :=
  fetch_keeps (P := fun u => u.p = s.p) (fun a u hu => by rw [← hu]; simp) rfl

theorem cpuStep_statusOk {s t : State} (hs : statusOk s.p = true) (h : cpuStep s = .next t) : statusOk t.p = true := by
  unfold cpuStep at h
  split at h
  · cases h
    rw [nmiEntry, enterHandler_eq (by decide) (by decide)]
    exact statusOk_setFlag hs (by decide) (by decide) (by decide)
  · split at h
    · next hf =>
      have hp := fetch_p s
      rw [hf] at hp
      exact exec_statusOk (hp ▸ hs) h
    · cases h

end Sys2Proof.Machine

namespace Sys2Proof.Proofs
open Sys2Proof.Machine

/-- Settles O60: the CPU's part keeps what the invariant says behind the bus, since every bus access does, and B and U,
since no instruction is listed for them; the dots keep their own arrays and the raster; the hand-over empties `nmi_out`. -/
theorem stepKeepsTheInvariant : Obligations.StepKeepsTheInvariant := by
  intro s t hs h
  obtain ⟨u, hu, rfl⟩ := step_next h
  have hdev : u.DevicesOk := devicesOk_busInvariant.cpuStep hs.devices hu
  have hstatus : statusOk (endStep u).p = true := by simpa using cpuStep_statusOk hs.status hu
  exact hdev.endStep.inv hstatus (endStep_nmiOut u)

end Sys2Proof.Proofs
end

section
/-! PROOFS. The fetch, byte by byte: bus reads at ascending addresses from PC, as many as the instruction has (20_memory.md
R83, 30_encoding.md R101). -/

namespace Sys2Proof.Machine
open Sys2Proof.Spec

/-- Where the bytes read one after the other from PC are exactly one instruction, they are the bytes the fetch reads. -/
theorem fetch_of_decode_readBytes {s : State} {i : Instr} {n : Nat}
    (h : decode (readBytes n s.pc s).1 = .ok (i, [])) : fetch s = (.instr i, (readBytes n s.pc s).2) := by
  have hpc : s.pc + 1 + 1 = s.pc + 2 := by rw [BitVec.add_assoc]; rfl
  match n with
  | 0 => simp [readBytes, decode] at h
  | n + 1 =>
    simp only [readBytes, decode] at h
    simp only [fetch, readBytes]
    cases hf : opcodeFormat (busRead s.pc s).1 with
    | none => simp [hf] at h
    | some f =>
      rw [hf] at h
      cases f with
      | f1 j =>
        match n with
        | 0 => simp_all [readBytes]
        | n + 1 => simp [readBytes] at h
      | f2 mk =>
        match n with
        | 0 => simp [readBytes] at h
        | 1 => simp_all [readBytes]
        | n + 2 => simp [readBytes] at h
      | f3 mk =>
        match n with
        | 0 => simp [readBytes] at h
        | 1 => simp [readBytes] at h
        | 2 => simp_all [readBytes]
        | n + 3 => simp [readBytes] at h

/-- With nothing to come before the fetch, the step is the instruction fetched and what follows it (R326, R327). -/
theorem step_of_fetch {s u : State} {i : Instr} (hfault : s.fault = none) (hnmi : s.nmiPending = false)
    (hfetch : fetch s = (.instr i, u)) : ∃ t, exec i u = .next t ∧ step s = .next (endStep t) := by
  obtain ⟨t, ht⟩ := exec_next i u
  exact ⟨t, ht, by simp [step, clockStep, hfault, cpuStep, hnmi, hfetch, ht]⟩

end Sys2Proof.Machine

namespace Sys2Proof.Proofs
open Sys2Proof.Machine

/-- Settles O7: the bytes read are the ones the fetch reads. -/
theorem stepFetchesThroughTheBus : Obligations.StepFetchesThroughTheBus := by
  intro s i hfault hnmi hdecode
  exact step_of_fetch hfault hnmi (fetch_of_decode_readBytes hdecode)

end Sys2Proof.Proofs
end

section
/-! PROOFS. The CPU bus, address by address (20_memory.md R60 to R69): the decoder's remaining arms, then what a read and a
write come to in each. -/

namespace Sys2Proof.Machine

theorem busTarget_dma {addr : Word} (h : addr.toNat = 0x4014) : busTarget addr = .dma := by
  rw [show addr = 0x4014 from BitVec.eq_of_toNat_eq h]; rfl

theorem busTarget_joy {addr : Word} (h : addr.toNat = 0x4016) : busTarget addr = .joy := by
  rw [show addr = 0x4016 from BitVec.eq_of_toNat_eq h]; rfl

theorem busTarget_joy2 {addr : Word} (h : addr.toNat = 0x4017) : busTarget addr = .joy2 := by
  rw [show addr = 0x4017 from BitVec.eq_of_toNat_eq h]; rfl

/-- The rest of 0x4000 to 0x7FFF decodes to nothing (R65, R66). -/
theorem busTarget_undecoded {addr : Word} (h : 0x4000 ≤ addr.toNat) (h' : addr.toNat < 0x8000)
    (hdma : addr.toNat ≠ 0x4014) (hjoy : addr.toNat ≠ 0x4016) (hjoy2 : addr.toNat ≠ 0x4017) :
    busTarget addr = .undecoded := by
  have hle : ∀ k : Word, k.toNat < 0x4000 → ¬ addr ≤ k := fun k hk => by rw [BitVec.le_def]; omega
  have hne : ∀ k : Word, addr.toNat ≠ k.toNat → ¬ addr = k := fun k hk e => hk (congrArg _ e)
  have htop : addr ≤ (0x7FFF : Word) := by rw [BitVec.le_def]; simp; omega
  rw [busTarget, if_neg (hle _ (by decide)), if_neg (hle _ (by decide)), if_neg (hne 0x4014 hdma), if_neg (hne 0x4016 hjoy),
    if_neg (hne 0x4017 hjoy2), if_pos htop, ite_self]

/-- The port number is the address modulo 8 (R63). -/
theorem ofNat_mod_eight (n : Nat) : BitVec.ofNat 3 (n % 8) = BitVec.ofNat 3 n := by
  apply BitVec.eq_of_toNat_eq; simp

end Sys2Proof.Machine

namespace Sys2Proof.Proofs
open Sys2Proof.Machine

/-- Settles O38, arm by arm of the decoder; 0x4014 reads as undecoded. -/
theorem busReadDecodesEveryAddress : Obligations.BusReadDecodesEveryAddress := by
  intro a s
  refine ⟨fun h => busRead_ram h s, fun h h' => ?_, fun h => ?_, fun h => ?_, fun h h' hjoy hjoy2 => ?_,
    fun h => busRead_prg h s⟩
  · rw [busRead, busTarget_port h h', ofNat_mod_eight]; rfl
  · rw [busRead, busTarget_joy h]; rfl
  · rw [busRead, busTarget_joy2 h]
  · by_cases hdma : a.toNat = 0x4014
    · rw [busRead, busTarget_dma hdma]
    · rw [busRead, busTarget_undecoded h h' hdma hjoy hjoy2]

/-- Settles O39, arm by arm of the decoder; from 0x4000 on, an address that is neither 0x4014 nor 0x4016 is 0x4017,
undecoded or program ROM. -/
theorem busWriteDecodesEveryAddress : Obligations.BusWriteDecodesEveryAddress := by
  intro a v s
  refine ⟨fun h => busWrite_ram h v s, fun h h' => ?_, fun h => ?_, fun h => ?_, fun h hdma hjoy => ?_⟩
  · rw [busWrite, busTarget_port h h', ofNat_mod_eight]
  · rw [busWrite, busTarget_dma h]
  · rw [busWrite, busTarget_joy h]; rfl
  · by_cases h' : a.toNat < 0x8000
    · by_cases hjoy2 : a.toNat = 0x4017
      · rw [busWrite, busTarget_joy2 hjoy2]
      · rw [busWrite, busTarget_undecoded h h' hdma hjoy hjoy2]
    · exact busWrite_prg (by omega) v s

end Sys2Proof.Proofs
end

section
/-! PROOFS. What a read of an address depends on, and what a write to work RAM changes of every address's byte (20_memory.md
R61, R62, R68). -/

namespace Sys2Proof.Machine
open Sys2Proof.Spec

theorem peek_ram {a : Word} (h : a.toNat < 0x2000) (s : State) : peek a s = s.ram.read (a.toNat % 2048) := by
  rw [peek, busRead_ram h]

theorem peek_prg {a : Word} (h : 0x8000 ≤ a.toNat) (s : State) :
    peek a s = s.cart.prg.read (mapPrg s.cart.prgSize a) := by
  rw [peek, busRead_prg h]

/-- The byte read at an address does not depend on the CPU's registers. -/
theorem peek_congr {s t : State} (h : t.bus = s.bus) (a : Word) : peek a t = peek a s := by
  simp only [State.bus, Prod.mk.injEq] at h
  obtain ⟨hram, hcart, hppu, hjoy, -, hparams⟩ := h
  unfold peek busRead
  cases busTarget a <;> simp only [hram, hcart, hppu, hjoy, hparams]

/-- The byte at a memory address depends on work RAM and the program image only. -/
theorem peek_memory_congr {s t : State} {a : Word} (ha : InMemory a) (hram : t.ram = s.ram)
    (hprg : t.cart.prg = s.cart.prg) (hsize : t.cart.prgSize = s.cart.prgSize) : peek a t = peek a s := by
  rcases ha with ha | ha
  · rw [peek_ram ha, peek_ram ha, hram]
  · rw [peek_prg ha, peek_prg ha, hprg, hsize]

theorem busTarget_ne_ram {a : Word} (h : 0x2000 ≤ a.toNat) (cell : Nat) : busTarget a ≠ .ram cell := by
  have h1 : ¬ a ≤ (0x1FFF : Word) := by rw [BitVec.le_def]; simp; omega
  rw [busTarget, if_neg h1]
  split_ifs <;> simp

/-- From 0x2000 on, no byte read depends on work RAM. -/
theorem peek_setRam {a : Word} (h : 0x2000 ≤ a.toNat) (m : Memory 8) (s : State) : peek a (s.setRam m) = peek a s := by
  unfold peek busRead
  cases ht : busTarget a with
  | ram cell => exact absurd ht (busTarget_ne_ram h cell)
  | _ => rfl

/-- A write to work RAM is read back at each image of its cell; every other address reads as before (R62). -/
theorem peek_busWrite_ram {s : State} {a : Word} (hs : s.ram.wf 2048 = true) (ha : a.toNat < 0x2000) (v : Byte)
    (b : Word) :
    peek b (busWrite a v s) = if b.toNat < 0x2000 ∧ b.toNat % 2048 = a.toNat % 2048 then v else peek b s := by
  rw [busWrite_ram ha]
  by_cases hb : b.toNat < 0x2000
  · rw [peek_ram hb, peek_ram hb, (State.setRam_fields _ s).2.2.2.2.2.2.2.2.2.1, Memory.read_write hs]
    simp only [hb, true_and, eq_comm]
  · rw [peek_setRam (by omega), if_neg (fun h => hb h.1)]

end Sys2Proof.Machine

namespace Sys2Proof.Proofs
open Sys2Proof.Machine

/-- Settles O40: the clause of `peek_busWrite_ram` for a second address in work RAM. -/
theorem ramImagesShareOneCell : Obligations.RamImagesShareOneCell := by
  intro s a b v hs ha hb
  rw [peek_busWrite_ram hs ha]
  simp only [hb, true_and]

end Sys2Proof.Proofs
end

section
/-! PROOFS. What no CPU access writes of the PPU (20_memory.md R81, 46_ppu_registers.md R258): everything but the ports' own
state, and VBlank, which a read of port 2 clears. -/

namespace Sys2Proof.Machine

/-- The PPU with the ports' own state and VBlank blanked out: what is left is the raster, the pipeline, the sprite buffers,
the sprite flags, the output signals and the frame buffer. -/
def Ppu.internals (p : Ppu) : Ppu :=
  { p with
    ctrl := 0, mask := 0, vblank := false, oamAddr := 0, oam := [], v := 0, t := 0, x := 0, w := false, readBuffer := 0
    ioLatch := 0, ntRam := [], pal := [] }

/-- `q` has the internals of `p`, and VBlank only if `p` has it. -/
structure Ppu.InternalsOf (p q : Ppu) : Prop where
  internals : q.internals = p.internals
  vblank : q.vblank = true → p.vblank = true

namespace Ppu.InternalsOf

variable {p q : Ppu}

theorem refl (p : Ppu) : p.InternalsOf p := ⟨rfl, id⟩

theorem trans {r : Ppu} (h : p.InternalsOf q) (k : q.InternalsOf r) : p.InternalsOf r :=
  ⟨k.internals.trans h.internals, fun hr => h.vblank (k.vblank hr)⟩

theorem portRead (c : Cartridge) (k : BitVec 3) (p : Ppu) : p.InternalsOf (p.portRead c k).2 := by
  unfold Ppu.portRead
  split
  case h_3 => exact ⟨rfl, fun h => nomatch h⟩  -- port 2 clears VBlank
  all_goals exact ⟨rfl, id⟩

theorem ppuWrite (m : Mirroring) (a : PpuAddr) (v : Byte) (p : Ppu) : p.InternalsOf (p.ppuWrite m a v) := by
  unfold Ppu.ppuWrite; split_ifs <;> exact ⟨rfl, id⟩

theorem writeScroll (v : Byte) (p : Ppu) : p.InternalsOf (p.writeScroll v) := by
  unfold Ppu.writeScroll; split <;> exact ⟨rfl, id⟩

theorem writeAddr (v : Byte) (p : Ppu) : p.InternalsOf (p.writeAddr v) := by
  unfold Ppu.writeAddr; split <;> exact ⟨rfl, id⟩

theorem portWrite (k : BitVec 3) (v : Byte) (s : State) : s.ppu.InternalsOf (portWrite k v s).ppu := by
  have hlatch : s.ppu.InternalsOf { s.ppu with ioLatch := v } := ⟨rfl, id⟩
  unfold Machine.portWrite
  simp only []
  split
  case h_6 => exact hlatch.trans (writeScroll v _)
  case h_7 => exact hlatch.trans (writeAddr v _)
  case h_8 => exact (hlatch.trans (ppuWrite s.cart.mirroring _ v _)).trans ⟨rfl, id⟩
  all_goals exact hlatch.trans ⟨rfl, id⟩

/-- No bus access reaches the internals. -/
theorem busInvariant (p : Ppu) : BusInvariant fun s => p.InternalsOf s.ppu where
  registers {s t} h hb := by
    have hppu : t.ppu = s.ppu := congrArg (fun b => b.2.2.1) hb
    rw [hppu]; exact h
  portRead {s} k h := h.trans (.portRead s.cart k s.ppu)
  joyRead h := h
  ramWrite _ _ h := h
  portWrite {s} k v h := h.trans (.portWrite k v s)
  joyWrite _ h := h
  oamPut _ _ h := h.trans ⟨rfl, id⟩

end Ppu.InternalsOf

end Sys2Proof.Machine

namespace Sys2Proof.Proofs
open Sys2Proof.Machine

/-- Settles O35: the internals of the PPU before are a property no bus access breaks. -/
theorem instructionsLeaveThePpuInternals : Obligations.InstructionsLeaveThePpuInternals := by
  intro i s t h
  obtain ⟨hi, hv⟩ := (Ppu.InternalsOf.busInvariant s.ppu).exec (.refl s.ppu) h
  have same : ∀ {α : Type} (f : Ppu → α), f t.ppu.internals = f s.ppu.internals := fun f => congrArg f hi
  exact ⟨same fun q => (q.scanline, q.dot, q.frame), same fun q => (q.ntByte, q.atBits, q.patLo, q.patHi),
    same fun q => (q.bgShLo, q.bgShHi, q.atShLo, q.atShHi), same fun q => (q.secCount, q.sec, q.spr0OnLine),
    same fun q => (q.sprLo, q.sprHi, q.sprAttr, q.sprX), same fun q => (q.nmiOut, q.frameComplete, q.fb),
    same fun q => (q.spr0Hit, q.sprOverflow), hv⟩

end Sys2Proof.Proofs
end

section
/-! PROOFS. Memory under an instruction that stores nothing (20_memory.md R61, R73): it makes bus reads only, and these
write no memory. -/

namespace Sys2Proof.Machine
open Sys2Proof.Spec

/-- Work RAM, the cartridge, OAM, nametable RAM and palette RAM. -/
def State.memories (s : State) : Memory 8 × Cartridge × Memory 8 × Memory 8 × Memory 6 :=
  (s.ram, s.cart, s.ppu.oam, s.ppu.ntRam, s.ppu.pal)

theorem memories_congr {s t : State} (h : t.bus = s.bus) : t.memories = s.memories :=
  congrArg (fun b => (b.1, b.2.1, b.2.2.1.oam, b.2.2.1.ntRam, b.2.2.1.pal)) h

/-- No bus read writes memory. -/
theorem busRead_memories (addr : Word) (s : State) : (busRead addr s).2.memories = s.memories := by
  unfold State.memories
  rw [busRead_ppu]
  simp

/-- The accumulator forms make no bus access. -/
theorem exec_acc_bus {i : Instr} {s t : State} (ho : i.operand = .acc) (h : exec i s = .next t) : t.bus = s.bus := by
  cases i <;> cases ho <;> cases h <;> rfl

theorem stores_of_storedRegister {i : Instr} {v : State → Byte} (h : storedRegister i.mnemonic = some v) :
    stores i = true := by
  unfold storedRegister at h; split at h <;> simp_all [stores]

theorem stores_of_pushedByte {i : Instr} {v : State → Byte} (h : pushedByte i.mnemonic = some v) : stores i = true := by
  unfold pushedByte at h; split at h <;> simp_all [stores]

/-- A read-modify-write instruction that stores nothing is a shift of the accumulator. -/
theorem operand_acc_of_modifyEffect {i : Instr} {f : Byte → Byte → Byte × Byte} (h : modifyEffect i.mnemonic = some f)
    (hi : stores i = false) : i.operand = .acc := by
  unfold modifyEffect at h; split at h <;> simp_all [stores]

/-- No instruction that stores nothing writes memory. -/
theorem exec_memories {i : Instr} {s t : State} (hi : stores i = false) (h : exec i s = .next t) :
    t.memories = s.memories := by
  have absurdStore : stores i = true → t.memories = s.memories := fun hs => by rw [hi] at hs; cases hs
  cases exec_shape i with
  | readImm hf base b he => rw [he] at h; cases h; exact memories_congr (by simp [readEffect_bus hf])
  | readMem hf base o he =>
    rw [he, readMem_eq] at h; cases h
    exact (memories_congr (by simp [readEffect_bus hf])).trans (busRead_memories (resolve o s).1.addr s)
  | store hv base o he => exact absurdStore (stores_of_storedRegister hv)
  | modifyMem hf base o he => exact memories_congr (exec_acc_bus (operand_acc_of_modifyEffect hf hi) h)
  | modifyAcc hf ho hm base he => exact memories_congr (exec_acc_bus ho h)
  | register hf base he => rw [he] at h; cases h; exact memories_congr (by simp [registerEffect_bus hf])
  | push hv base he => exact absurdStore (stores_of_pushedByte hv)
  | pull hf base he => rw [he] at h; cases h; exact memories_congr (by simp [pulledEffect_bus hf])
  | branch hc off he =>
    simp only [he, branchIf] at h
    split at h <;> cases h <;> exact memories_congr (by simp)
  | jmpAbs hm w he => rw [he] at h; cases h; exact memories_congr (by simp)
  | jmpInd hm w he =>
    rw [he] at h; cases h
    have read : (memRead16bug w s).2.memories = s.memories := (busRead_memories _ _).trans (busRead_memories w s)
    exact (memories_congr (by simp)).trans read
  | jsr hm w he => exact absurdStore (by simp [stores, hm])
  | rts hm he => rw [he] at h; cases h; exact memories_congr (by simp)
  | brk hm he => exact absurdStore (by simp [stores, hm])
  | rti hm he => rw [he] at h; cases h; exact memories_congr (by simp)

end Sys2Proof.Machine

namespace Sys2Proof.Proofs
open Sys2Proof.Machine

/-- Settles O34: no instruction that stores nothing writes the memories, and the byte at a memory address depends on them
only. -/
theorem nonStoringInstructionsLeaveMemory : Obligations.NonStoringInstructionsLeaveMemory := by
  intro i s t hi h
  have hm := exec_memories hi h
  simp only [State.memories, Prod.mk.injEq] at hm
  obtain ⟨hram, hcart, hoam, hnt, hpal⟩ := hm
  exact ⟨hram, hcart, fun a ha => peek_memory_congr ha hram (by rw [hcart]) (by rw [hcart]), hoam, hnt, hpal⟩

end Sys2Proof.Proofs
end

section
/-! PROOFS. The address a memory operand names (30_encoding.md R106 to R114), as the statements write it, and the memory
form of a store or of a read-modify-write instruction. -/

namespace Sys2Proof.Machine
open Sys2Proof.Spec

theorem zext16_toNat (b : Byte) : (zext16 b).toNat = b.toNat := by
  have : b.toNat < 256 := b.isLt
  rw [zext16, BitVec.toNat_setWidth, Nat.mod_eq_of_lt (by omega)]

theorem word_toNat (lo hi : Byte) : (word lo hi).toNat = lo.toNat + 256 * hi.toNat := by
  rw [word, BitVec.toNat_append, ← Nat.shiftLeft_add_eq_or_of_lt lo.isLt, Nat.shiftLeft_eq]
  omega

/-- The pointer read of the indirect modes (20_memory.md R71). -/
theorem memRead16zp_pointer (z : Byte) (s : State) : (memRead16zp z s).1.toNat = pointer s z.toNat := by
  rw [memRead16zp_eq, word_toNat, pointer, BitVec.toNat_add]; rfl

theorem indexed_toNat (base : Word) (index : Byte) :
    (indexed base index).addr.toNat = (base.toNat + index.toNat) % 65536 := by
  rw [indexed, BitVec.toNat_add, zext16_toNat]

theorem resolve_addr_toNat (o : MemOperand) (s : State) : (resolve o s).1.addr.toNat = address s o := by
  cases o with
  | zp b => exact zext16_toNat b
  | zpx b => exact (zext16_toNat _).trans (BitVec.toNat_add b s.x)
  | zpy b => exact (zext16_toNat _).trans (BitVec.toNat_add b s.y)
  | abs w => rfl
  | abx w => exact indexed_toNat w s.x
  | aby w => exact indexed_toNat w s.y
  | izx b => exact (memRead16zp_pointer _ s).trans (by rw [BitVec.toNat_add]; rfl)
  | izy b => exact (indexed_toNat _ s.y).trans (by rw [memRead16zp_pointer]; rfl)

/-- The effective address is the one the rules name. -/
theorem resolve_addr (o : MemOperand) (s : State) : (resolve o s).1.addr = busAddress s o := by
  rw [busAddress, ← resolve_addr_toNat, BitVec.ofNat_toNat, BitVec.setWidth_eq]

theorem busAddress_toNat (o : MemOperand) (s : State) : (busAddress s o).toNat = address s o := by
  rw [← resolve_addr, resolve_addr_toNat]

/-- A store's meaning, by its operand and the register it stores. -/
theorem exec_store {i : Instr} {o : MemOperand} {s : State} {v : Byte} (ho : dataOperand i.operand = some o)
    (hv : stored i.mnemonic s = some v) : exec i s = storeMem (storeCost o) v o s := by
  cases i <;> cases ho <;> cases hv <;> rfl

/-- A read-modify-write instruction's meaning in its memory forms, by its operand and its operation. -/
theorem exec_modify {i : Instr} {o : MemOperand} {f : Byte → Byte → Byte × Byte} (ho : dataOperand i.operand = some o)
    (hf : modifyEffect i.mnemonic = some f) : exec i = modifyMem (modifyCost o) f o := by
  cases i <;> cases ho <;> cases hf <;> rfl

/-! The results of the read-modify-write operations -/

theorem incOp_result (m p : Byte) : (incOp m p).1 = BitVec.ofNat 8 (m.toNat + 1) := by
  apply BitVec.eq_of_toNat_eq; simp [incOp, BitVec.toNat_add]

theorem decOp_result (m p : Byte) : (decOp m p).1 = BitVec.ofNat 8 (m.toNat + 255) := by
  apply BitVec.eq_of_toNat_eq; simp [decOp, BitVec.toNat_sub]; omega

theorem aslOp_result (m p : Byte) : (aslOp m p).1 = BitVec.ofNat 8 (2 * m.toNat) := by
  apply BitVec.eq_of_toNat_eq; simp [aslOp, Nat.shiftLeft_eq, Nat.mul_comm]

theorem lsrOp_result (m p : Byte) : (lsrOp m p).1 = BitVec.ofNat 8 (m.toNat / 2) := by
  have := m.isLt
  apply BitVec.eq_of_toNat_eq; simp [lsrOp, Nat.shiftRight_eq_div_pow]; omega

theorem rolOp_result (m p : Byte) : (rolOp m p).1 = BitVec.ofNat 8 (2 * m.toNat + (Spec.carry p).toNat) := by
  apply BitVec.eq_of_getLsbD_eq
  intro k hk
  rw [rolOp, getLsbD_putField, BitVec.getLsbD_ofNat]
  have hc : (Spec.carry p).toNat < 2 := Bool.toNat_lt _
  cases k with
  | zero => cases h : Spec.carry p <;> simp_all [Spec.carry, flag, bitC, bit1]
  | succ k =>
    have half : (2 * m.toNat + (Spec.carry p).toNat) / 2 = m.toNat := by omega
    simp [hk, Nat.testBit_succ, half, BitVec.testBit_toNat, show k < 8 by omega]

theorem rorOp_result (m p : Byte) : (rorOp m p).1 = BitVec.ofNat 8 (m.toNat / 2 + 128 * (Spec.carry p).toNat) := by
  apply BitVec.eq_of_getLsbD_eq
  intro k hk
  have low : m.toNat / 2 < 2 ^ 7 := by have := m.isLt; omega
  rw [rorOp, getLsbD_putField, BitVec.getLsbD_ofNat, Nat.add_comm (m.toNat / 2),
    Nat.testBit_two_pow_mul_add (i := 7) _ low]
  by_cases h7 : k = 7
  · subst h7; cases h : Spec.carry p <;> simp_all [Spec.carry, flag, bitC, bit1]
  · simp [show ¬ 7 ≤ k by omega, show k < 7 by omega, hk, ← Nat.testBit_succ, BitVec.testBit_toNat, Nat.add_comm]

/-- The byte the statements give a read-modify-write instruction is its operation's result. -/
theorem modified_result {mn : Mnemonic} {m p v : Byte} {co : Option Bool}
    (h : modified mn m (Spec.carry p) = some (v, co)) : ∃ f, modifyEffect mn = some f ∧ (f m p).1 = v := by
  unfold modified at h
  split at h <;> cases h
  · exact ⟨_, rfl, incOp_result m p⟩
  · exact ⟨_, rfl, decOp_result m p⟩
  · exact ⟨_, rfl, aslOp_result m p⟩
  · exact ⟨_, rfl, lsrOp_result m p⟩
  · exact ⟨_, rfl, rolOp_result m p⟩
  · exact ⟨_, rfl, rorOp_result m p⟩

/-! What a bus access leaves of memory -/

/-- A write to a device or to program ROM leaves work RAM. -/
theorem busWrite_ram_same {a : Word} (h : 0x2000 ≤ a.toNat) (v : Byte) (s : State) : (busWrite a v s).ram = s.ram := by
  unfold busWrite
  cases ht : busTarget a with
  | ram cell => exact absurd ht (busTarget_ne_ram h cell)
  | _ => simp [portWrite_fields, oamDma, oamDmaCopy_fields]

/-- The program image is part of the configuration, which no instruction changes. -/
theorem exec_sameConfig {i : Instr} {s t : State} (h : exec i s = .next t) : SameConfig s t :=
  (sameConfig_busInvariant s).exec (.refl s) h

/-- A store or read-modify-write form is at most a read, then one write, of the address it names; its registers aside. -/
theorem exec_stores_bus {i : Instr} {s t : State} {o : MemOperand} {v : Byte} (ho : dataOperand i.operand = some o)
    (hv : stored i.mnemonic s = some v ∨
      ∃ co, modified i.mnemonic (busRead (busAddress s o) s).1 (Spec.carry s.p) = some (v, co))
    (h : exec i s = .next t) :
    ∃ u : State, (u.bus = s.bus ∨ u.bus = (busRead (busAddress s o) s).2.bus) ∧
      t.bus = (busWrite (busAddress s o) v u).bus := by
  rcases hv with hv | ⟨co, hv⟩
  · rw [exec_store ho hv, storeMem_eq, resolve_addr] at h; cases h
    exact ⟨_, .inl (setCyc_bus _ s), advance_bus _ _⟩
  · obtain ⟨f, hf, rfl⟩ := modified_result hv
    rw [exec_modify ho hf, modifyMem_eq, resolve_addr] at h; cases h
    exact ⟨_, .inr (setCyc_bus _ _), (advance_bus _ _).trans (setP_bus _ _)⟩

end Sys2Proof.Machine

namespace Sys2Proof.Proofs
open Sys2Proof.Machine Sys2Proof.Spec

/-- Settles O15: the form's one write reaches the cell of its address; a read of work RAM before it has no side effect, and
neither access of a device reaches work RAM or the program image. -/
theorem storesChangeOnlyTheAddressedByte : Obligations.StoresChangeOnlyTheAddressedByte := by
  intro i s t o v hs ho hv h
  obtain ⟨u, hu, ht⟩ := exec_stores_bus ho hv h
  have hram : u.ram = s.ram := by
    rcases hu with hu | hu
    · exact congrArg Prod.fst hu
    · exact (congrArg Prod.fst hu).trans (by simp [State.bus])
  have hwrite : t.ram = (busWrite (busAddress s o) v u).ram := congrArg Prod.fst ht
  rw [← busAddress_toNat]
  refine ⟨fun ha a => ?_, fun ha a hmem => ?_⟩
  · have hbus : u.bus = s.bus := by rwa [busRead_ram ha, or_self] at hu
    rw [peek_congr ht, peek_busWrite_ram (hram ▸ hs) ha, peek_congr hbus]
  · have hc := exec_sameConfig h
    exact peek_memory_congr hmem (by rw [hwrite, busWrite_ram_same ha, hram]) hc.prg hc.prgSize

end Sys2Proof.Proofs
end

section
/-! PROOFS. OAM DMA from a page without a device (20_memory.md R84): none of its reads has a side effect or sees the OAM
bytes written before it, so the copy is 256 writes to the 256 cells of OAM, each once. -/

namespace Sys2Proof.Machine

/-- Byte `k` of a page, on the bus. -/
def pageAddr (page : Byte) (k : Nat) : Word := page ++ BitVec.ofNat 8 k

theorem pageAddr_toNat (page : Byte) (k : Nat) : (pageAddr page k).toNat = 256 * page.toNat + k % 256 := by
  have hk : (BitVec.ofNat 8 k).toNat < 2 ^ 8 := (BitVec.ofNat 8 k).isLt
  rw [pageAddr, BitVec.toNat_append, ← Nat.shiftLeft_add_eq_or_of_lt hk, Nat.shiftLeft_eq, BitVec.toNat_ofNat]
  omega

/-- The page holds no device: work RAM, program ROM, or the undecoded pages past the one of the ports 0x4000 to 0x401F. -/
abbrev PageWithoutDevice (page : Byte) : Prop := page.toNat < 0x20 ∨ 0x41 ≤ page.toNat

/-- A read of such a page does not see the PPU, and leaves the state. -/
theorem busRead_page {page : Byte} (h : PageWithoutDevice page) (k : Nat) (s : State) (q : Ppu) :
    busRead (pageAddr page k) (s.setPpu q) = (peek (pageAddr page k) s, s.setPpu q) := by
  have ha := pageAddr_toNat page k
  have target : (∃ c, busTarget (pageAddr page k) = .ram c) ∨ busTarget (pageAddr page k) = .undecoded ∨
      busTarget (pageAddr page k) = .prg := by
    by_cases hram : (pageAddr page k).toNat < 0x2000
    · exact .inl ⟨_, busTarget_ram hram⟩
    · by_cases hprg : 0x8000 ≤ (pageAddr page k).toNat
      · exact .inr (.inr (busTarget_prg hprg))
      · exact .inr (.inl (busTarget_undecoded (by omega) (by omega) (by omega) (by omega) (by omega)))
  unfold peek busRead
  rcases target with ⟨c, ht⟩ | ht | ht <;> rw [ht] <;> rfl

/-- The OAM cell that byte `k` of the page goes to: from `oam_addr` on, wrapping. -/
def oamCell (p : Ppu) (k : Nat) : Nat := (p.oamAddr + BitVec.ofNat 8 k).toNat

theorem oamCell_eq (p : Ppu) (k : Nat) : oamCell p k = (p.oamAddr.toNat + k) % 256 := by
  rw [oamCell, BitVec.toNat_add, BitVec.toNat_ofNat, Nat.add_mod_mod]

theorem oamCell_injective {p : Ppu} {j k : Nat} (hj : j < 256) (hk : k < 256) (h : oamCell p j = oamCell p k) :
    j = k := by
  rw [oamCell_eq, oamCell_eq] at h; omega

/-- OAM after `n` bytes from byte `i` of the page on. -/
def oamAfterCopy (page : Byte) (s : State) : Nat → Nat → Memory 8 → Memory 8
  | 0, _, m => m
  | n + 1, i, m => oamAfterCopy page s n (i + 1) (m.write (oamCell s.ppu i) (peek (pageAddr page i) s))

/-- The copy loop of such a page writes OAM and nothing else. -/
theorem oamDmaCopy_eq {page : Byte} (h : PageWithoutDevice page) (s : State) (n i : Nat) (m : Memory 8) :
    oamDmaCopy page n i (s.setPpu { s.ppu with oam := m }) =
      s.setPpu { s.ppu with oam := oamAfterCopy page s n i m } := by
  induction n generalizing i m with
  | zero => rfl
  | succ n ih =>
    rw [oamDmaCopy, ← pageAddr, busRead_page h]
    exact ih (i + 1) (m.write (oamCell s.ppu i) (peek (pageAddr page i) s))

/-- Each cell the loop reaches holds its byte of the page; the cells of the other bytes are as before. -/
theorem read_oamAfterCopy (page : Byte) (s : State) {n i k : Nat} {m : Memory 8} (hm : m.wf 256 = true)
    (hn : i + n ≤ 256) (hk : k < 256) :
    (oamAfterCopy page s n i m).read (oamCell s.ppu k) =
      if i ≤ k ∧ k < i + n then peek (pageAddr page k) s else m.read (oamCell s.ppu k) := by
  induction n generalizing i m with
  | zero => rw [oamAfterCopy, if_neg (by omega)]
  | succ n ih =>
    have hcell : oamCell s.ppu i < 256 := (s.ppu.oamAddr + BitVec.ofNat 8 i).isLt
    rw [oamAfterCopy, ih (Memory.wf_write hm hcell) (by omega)]
    by_cases hik : i = k
    · subst hik
      rw [if_neg (by omega), if_pos (by omega), Memory.read_write_same hm]
    · rw [Memory.read_write_other hm (fun e => hik (oamCell_injective (by omega) hk e))]
      simp only [show i + 1 ≤ k ∧ k < i + 1 + n ↔ i ≤ k ∧ k < i + (n + 1) by omega]

theorem oamDmaCopy_page {page : Byte} (h : PageWithoutDevice page) (s : State) (n : Nat) :
    oamDmaCopy page n 0 s = s.setPpu { s.ppu with oam := oamAfterCopy page s n 0 s.ppu.oam } :=
  oamDmaCopy_eq h s n 0 s.ppu.oam

/-- OAM DMA from such a page, whole. -/
theorem oamDma_eq {page : Byte} (h : PageWithoutDevice page) (s : State) :
    oamDma page s =
      { s with ppu := { s.ppu with oam := oamAfterCopy page s 256 0 s.ppu.oam }, cyc := s.cyc + 513 } := by
  rw [oamDma, oamDmaCopy_page h]
  simp only [State.setPpu, State.setCyc, Config.oamDmaCycles]

end Sys2Proof.Machine

namespace Sys2Proof.Proofs
open Sys2Proof.Machine

/-- Settles O41: what the copy loop leaves in each of its 256 cells. -/
theorem oamDmaCopiesThePage : Obligations.OamDmaCopiesThePage := by
  intro v s hs hv
  have hdma := oamDma_eq hv s
  refine ⟨fun k hk => ?_, by rw [hdma]⟩
  have haddr : BitVec.ofNat 16 (256 * v.toNat + k) = pageAddr v k := by
    rw [← Nat.mod_eq_of_lt hk, ← pageAddr_toNat, BitVec.ofNat_toNat, BitVec.setWidth_eq, Nat.mod_eq_of_lt hk]
  rw [haddr, hdma, ← oamCell_eq]
  dsimp only
  rw [read_oamAfterCopy v s hs (by omega) hk, if_pos (by omega)]

end Sys2Proof.Proofs
end

section
/-! PROOFS. The PPU bus in the statements' arithmetic (20_memory.md R74 to R78): the cell each address names, and port 7's
write (46_ppu_registers.md R255, R257). -/

namespace Sys2Proof.Machine
open Sys2Proof.Spec

theorem toNat_and_lowBits (x : PpuAddr) {n : Nat} (hn : n ≤ 14) :
    (x &&& BitVec.ofNat 14 (2 ^ n - 1)).toNat = x.toNat % 2 ^ n := by
  have hlt : 2 ^ n - 1 < 2 ^ 14 := by have := Nat.pow_le_pow_right (n := 2) (by decide) hn; omega
  rw [BitVec.toNat_and, BitVec.toNat_ofNat, Nat.mod_eq_of_lt hlt, Nat.and_two_pow_sub_one_eq_mod]

/-- The nametable cell (R77); the horizontal mode moves address bit 11 to cell bit 10. -/
theorem ntIndex_eq (m : Mirroring) (a : PpuAddr) : ntIndex m a = ntCell m a.toNat := by
  have offset : (a &&& 0x0FFF).toNat = a.toNat % 4096 := toNat_and_lowBits a (n := 12) (by decide)
  cases m with
  | fourScreen => exact offset
  | vertical =>
    have low : ((a &&& 0x0FFF) &&& 0x07FF).toNat = (a &&& 0x0FFF).toNat % 2048 :=
      toNat_and_lowBits _ (n := 11) (by decide)
    rw [ntIndex, low, offset, ntCell]; omega
  | horizontal =>
    have low : ((a &&& 0x0FFF) &&& 0x03FF).toNat = (a &&& 0x0FFF).toNat % 1024 :=
      toNat_and_lowBits _ (n := 10) (by decide)
    have high : (((a &&& 0x0FFF) >>> 1) &&& 0x0400).toNat = 2 ^ 10 * (a.toNat / 2048 % 2) := by
      rw [BitVec.toNat_and, BitVec.toNat_ushiftRight, offset, show (0x0400 : PpuAddr).toNat = 2 ^ 10 by rfl,
        Nat.and_two_pow, Nat.toNat_testBit, Nat.shiftRight_eq_div_pow]
      omega
    have hlt : a.toNat % 4096 % 1024 < 2 ^ 10 := Nat.mod_lt _ (by decide)
    rw [ntIndex, BitVec.toNat_or, low, high, offset, ← Nat.two_pow_add_eq_or_of_lt hlt, ntCell]
    omega

/-- The palette cell (R78), which the low five address bits decide. -/
theorem palIndex_eq (a : PpuAddr) : palIndex a = palCell a.toNat := by
  have low : a &&& 0x001F = BitVec.ofNat 14 (a.toNat % 32) := by
    apply BitVec.eq_of_toNat_eq
    rw [BitVec.toNat_ofNat, Nat.mod_eq_of_lt (by omega : a.toNat % 32 < 2 ^ 14)]
    exact toNat_and_lowBits a (n := 5) (by decide)
  have cells : ∀ n < 32, (if BitVec.ofNat 14 n &&& 0x13 = 0x10 then (BitVec.ofNat 14 n &&& 0x0F).toNat
      else (BitVec.ofNat 14 n).toNat) = palCell n := by decide
  have period : palCell (a.toNat % 32) = palCell a.toNat := by unfold palCell; split_ifs <;> omega
  rw [palIndex, low]
  exact (cells _ (Nat.mod_lt _ (by decide))).trans period

/-! The bounds of the PPU bus's regions -/

theorem le_patternEnd {a : PpuAddr} : a ≤ 0x1FFF ↔ a.toNat < 0x2000 := by rw [BitVec.le_def]; exact Nat.lt_succ_iff.symm

theorem le_nametableEnd {a : PpuAddr} : a ≤ 0x3EFF ↔ a.toNat < 0x3F00 := by rw [BitVec.le_def]; exact Nat.lt_succ_iff.symm

/-- A PPU-bus read answers the byte of the cell the address names (R74). -/
theorem ppuRead_eq (c : Cartridge) (p : Ppu) (a : PpuAddr) : ppuRead c p a = ppuByte c p a.toNat := by
  simp only [ppuRead, ppuByte, mapChr, ntIndex_eq, palIndex_eq, le_patternEnd, le_nametableEnd, BitVec.ofNat_toNat]

theorem vramIncrement_eq (p : Ppu) :
    p.vramIncrement = { p with v := BitVec.ofNat 15 (p.v.toNat + if p.ctrl.getLsbD 2 then 32 else 1) } := by
  rw [Ppu.vramIncrement, Ppu.vramInc, BitVec.ofNat_add, BitVec.ofNat_toNat, BitVec.setWidth_eq]
  split <;> rfl

/-- Port 7's write whole (R255): the byte to the PPU-bus address in `v`, then `v` moves. -/
theorem portWrite_seven (b : Byte) (s : State) :
    portWrite 7 b s =
      { s with
        cart := s.cart.ppuWrite s.ppu.vramAddr b
        ppu := (Ppu.ppuWrite s.cart.mirroring { s.ppu with ioLatch := b } s.ppu.vramAddr b).vramIncrement } := rfl

end Sys2Proof.Machine

namespace Sys2Proof.Proofs
open Sys2Proof.Machine Sys2Proof.Spec

/-- Settles O44: the read by its equation; port 7's write by the region its address lies in. -/
theorem ppuBusReachesOneCell : Obligations.PpuBusReachesOneCell := by
  refine ⟨ppuRead_eq, fun b s => ?_⟩
  have ha : s.ppu.vramAddr.toNat = s.ppu.v.toNat % 16384 := BitVec.toNat_setWidth _ _
  simp only [portWrite_seven, Cartridge.ppuWrite, Ppu.ppuWrite, le_patternEnd, le_nametableEnd, mapChr, ntIndex_eq,
    palIndex_eq, ha]
  refine ⟨fun h hram => ?_, fun h hrom => ?_, fun h h' => ?_, fun h => ?_⟩
  · simp [h, hram, vramIncrement_eq]
  · simp [h, hrom, vramIncrement_eq]
  · simp [show ¬ s.ppu.v.toNat % 16384 < 0x2000 by omega, h', vramIncrement_eq]
  · have hfield : field b 0 6 = BitVec.ofNat 6 b.toNat := rfl
    simp [show ¬ s.ppu.v.toNat % 16384 < 0x2000 by omega, show ¬ s.ppu.v.toNat % 16384 < 0x3F00 by omega, hfield,
      vramIncrement_eq]

end Sys2Proof.Proofs
end

section
/-! PROOFS. The ports' own state under the dots. -/

namespace Sys2Proof.Proofs
open Sys2Proof.Machine

/-- Settles O45: the fields are those of `Ppu.portOwned`, which no dot writes. -/
theorem dotsLeaveThePortState : Obligations.DotsLeaveThePortState := by
  intro c n p
  have h := ticks_owned c n p
  simp only [Ppu.portOwned, Prod.mk.injEq] at h
  obtain ⟨hctrl, hmask, hoamAddr, hoam, ht, hx, hw, hbuffer, hlatch, hnt, hpal⟩ := h
  simp only [hctrl, hmask, hoamAddr, hoam, ht, hx, hw, hbuffer, hlatch, hnt, hpal, and_self]

end Sys2Proof.Proofs
end

section
/-! PROOFS. The decoder and the encoder (30_encoding.md R100, R101, R116 to R119): the decode table against the encoder's
opcodes, row by row; both round trips are then one fact about the decoder's three formats. -/

namespace Sys2Proof

@[simp] theorem loByte_word (lo hi : Byte) : loByte (word lo hi) = lo := BitVec.extractLsb'_append_eq_right

@[simp] theorem hiByte_word (lo hi : Byte) : hiByte (word lo hi) = hi := BitVec.extractLsb'_append_eq_left

@[simp] theorem word_loByte_hiByte (w : Word) : word (loByte w) (hiByte w) = w :=
  (BitVec.extractLsb'_append_extractLsb'_eq_extractLsb' rfl).trans BitVec.extractLsb'_eq_self

/-- A format makes the instruction of its operand bytes (R100). -/
inductive Format.Makes : Format → List Byte → Instr → Prop where
  | f1 (i : Instr) : Makes (.f1 i) [] i
  | f2 (mk : Byte → Instr) (b : Byte) : Makes (.f2 mk) [b] (mk b)
  | f3 (mk : Word → Instr) (w : Word) : Makes (.f3 mk) [loByte w, hiByte w] (mk w)

/-- What the decoder reads off the front of a byte string: an opcode, then the operand bytes its format takes. -/
theorem decode_eq_ok_iff {bs rest : List Byte} {i : Instr} :
    decode bs = .ok (i, rest) ↔
      ∃ op f operand, opcodeFormat op = some f ∧ f.Makes operand i ∧ bs = op :: operand ++ rest := by
  constructor
  · intro h
    cases bs with
    | nil => cases h
    | cons op tail =>
      cases hf : opcodeFormat op with
      | none => simp [decode, hf] at h
      | some f =>
        simp only [decode, hf] at h
        refine ⟨op, f, ?_⟩
        cases f with
        | f1 => cases h; exact ⟨[], hf, .f1 i, rfl⟩
        | f2 mk =>
          cases tail with
          | nil => cases h
          | cons b tail => cases h; exact ⟨[b], hf, .f2 mk b, rfl⟩
        | f3 mk =>
          match tail with
          | [] => cases h
          | [_] => cases h
          | lo :: hi :: tail => cases h; exact ⟨[lo, hi], hf, by simpa using Format.Makes.f3 mk (word lo hi), rfl⟩
  · rintro ⟨op, f, operand, hf, hmakes, rfl⟩
    cases hmakes <;> simp [decode, hf]

/-- The decoder refuses an opcode byte where the table has no format for it (R118). -/
theorem decode_eq_illegalOpcode_iff (op : Byte) (rest : List Byte) :
    decode (op :: rest) = .error (.illegalOpcode op) ↔ opcodeFormat op = none := by
  cases hf : opcodeFormat op with
  | none => simp [decode, hf]
  | some f =>
    cases f with
    | f1 j => simp [decode, hf]
    | f2 mk => cases rest <;> simp [decode, hf]
    | f3 mk =>
      match rest with
      | [] | [_] | _ :: _ :: _ => simp [decode, hf]

/-- Every instruction's opcode has the format that makes it from its operand bytes (R116 from R117). -/
theorem opcodeFormat_opcode (i : Instr) : ∃ f, opcodeFormat i.opcode = some f ∧ f.Makes i.operand.bytes i := by
  cases i <;> dsimp only [Instr.opcode, Instr.operand, Operand.bytes] <;> exact ⟨_, rfl, by constructor⟩

theorem mem_of_findOpcode {op : Byte} {f : Format} {rows : List (Byte × Format)} (h : findOpcode op rows = some f) :
    (op, f) ∈ rows := by
  induction rows with
  | nil => cases h
  | cons row rows ih =>
    rw [findOpcode] at h
    split at h
    · next hop => cases h; cases hop; exact .head _
    · exact .tail _ (ih h)

/-- Every row of the decode matrix agrees with the encoder (R117 from R116). -/
theorem encode_of_mem_opcodeRow {op : Byte} {row : Byte × Format} {operand : List Byte} {i : Instr}
    (h : row ∈ opcodeRow op) (hmakes : row.2.Makes operand i) : encode i = row.1 :: operand := by
  unfold opcodeRow at h
  split at h <;> fin_cases h <;> cases hmakes <;> rfl

/-- What the table's format makes of operand bytes encodes to the opcode and those bytes. -/
theorem encode_of_opcodeFormat {op : Byte} {f : Format} {operand : List Byte} {i : Instr}
    (h : opcodeFormat op = some f) (hmakes : f.Makes operand i) : encode i = op :: operand :=
  encode_of_mem_opcodeRow (mem_of_findOpcode h) hmakes

/-- R119 lists the opcode bytes that have no format. -/
theorem opcodeFormat_eq_none_iff (op : Byte) : opcodeFormat op = none ↔ op ∈ Spec.illegalOpcodes := by
  have every : ∀ op : Byte, (opcodeFormat op).isNone = Spec.illegalOpcodes.contains op := by decide
  rw [← Option.isNone_iff_eq_none, every, List.contains_iff_mem]

end Sys2Proof

namespace Sys2Proof.Proofs

/-- Settles O1: the decoder reads the opcode's format off the table, and that format makes the instruction. -/
theorem decodingAnEncodedInstructionGivesItBack : Obligations.DecodingAnEncodedInstructionGivesItBack := by
  intro i rest
  obtain ⟨f, hf, hmakes⟩ := opcodeFormat_opcode i
  exact decode_eq_ok_iff.mpr ⟨_, f, _, hf, hmakes, rfl⟩

/-- Settles O2: the decoder takes an opcode and operand bytes of which its table's row makes the instruction, and each
row agrees with the encoder. -/
theorem encodingADecodedInstructionGivesItsBytes : Obligations.EncodingADecodedInstructionGivesItsBytes := by
  intro bs i rest h
  obtain ⟨op, f, operand, hf, hmakes, rfl⟩ := decode_eq_ok_iff.mp h
  rw [encode_of_opcodeFormat hf hmakes]

/-- Settles O3: the decoder refuses the bytes without a format, and these are the bytes listed. -/
theorem decoderRefusesExactlyTheIllegalOpcodes : Obligations.DecoderRefusesExactlyTheIllegalOpcodes :=
  ⟨by decide, fun op rest => (decode_eq_illegalOpcode_iff op rest).trans (opcodeFormat_eq_none_iff op)⟩

/-- Settles O4, by running the decoder on the twelve words. -/
theorem sampleWordsDecode : Obligations.SampleWordsDecode := by
  unfold Obligations.SampleWordsDecode
  decide

end Sys2Proof.Proofs
end

section
/-! PROOFS. Written lines (30_encoding.md R117, R125): the instruction a line names, found by its mnemonic's row. -/

namespace Sys2Proof

/-- The formats of a mnemonic's instructions, in the order of its modes (R117). -/
def Mnemonic.formats : Mnemonic → List Format
  | .lda => [.f2 .ldaImm, .f2 .ldaZp, .f2 .ldaZpx, .f3 .ldaAbs, .f3 .ldaAbx, .f3 .ldaAby, .f2 .ldaIzx, .f2 .ldaIzy]
  | .ldx => [.f2 .ldxImm, .f2 .ldxZp, .f2 .ldxZpy, .f3 .ldxAbs, .f3 .ldxAby]
  | .ldy => [.f2 .ldyImm, .f2 .ldyZp, .f2 .ldyZpx, .f3 .ldyAbs, .f3 .ldyAbx]
  | .sta => [.f2 .staZp, .f2 .staZpx, .f3 .staAbs, .f3 .staAbx, .f3 .staAby, .f2 .staIzx, .f2 .staIzy]
  | .stx => [.f2 .stxZp, .f2 .stxZpy, .f3 .stxAbs]
  | .sty => [.f2 .styZp, .f2 .styZpx, .f3 .styAbs]
  | .tax => [.f1 .tax]
  | .tay => [.f1 .tay]
  | .txa => [.f1 .txa]
  | .tya => [.f1 .tya]
  | .tsx => [.f1 .tsx]
  | .txs => [.f1 .txs]
  | .adc => [.f2 .adcImm, .f2 .adcZp, .f2 .adcZpx, .f3 .adcAbs, .f3 .adcAbx, .f3 .adcAby, .f2 .adcIzx, .f2 .adcIzy]
  | .sbc => [.f2 .sbcImm, .f2 .sbcZp, .f2 .sbcZpx, .f3 .sbcAbs, .f3 .sbcAbx, .f3 .sbcAby, .f2 .sbcIzx, .f2 .sbcIzy]
  | .cmp => [.f2 .cmpImm, .f2 .cmpZp, .f2 .cmpZpx, .f3 .cmpAbs, .f3 .cmpAbx, .f3 .cmpAby, .f2 .cmpIzx, .f2 .cmpIzy]
  | .cpx => [.f2 .cpxImm, .f2 .cpxZp, .f3 .cpxAbs]
  | .cpy => [.f2 .cpyImm, .f2 .cpyZp, .f3 .cpyAbs]
  | .inc => [.f2 .incZp, .f2 .incZpx, .f3 .incAbs, .f3 .incAbx]
  | .inx => [.f1 .inx]
  | .iny => [.f1 .iny]
  | .dec => [.f2 .decZp, .f2 .decZpx, .f3 .decAbs, .f3 .decAbx]
  | .dex => [.f1 .dex]
  | .dey => [.f1 .dey]
  | .and => [.f2 .andImm, .f2 .andZp, .f2 .andZpx, .f3 .andAbs, .f3 .andAbx, .f3 .andAby, .f2 .andIzx, .f2 .andIzy]
  | .ora => [.f2 .oraImm, .f2 .oraZp, .f2 .oraZpx, .f3 .oraAbs, .f3 .oraAbx, .f3 .oraAby, .f2 .oraIzx, .f2 .oraIzy]
  | .eor => [.f2 .eorImm, .f2 .eorZp, .f2 .eorZpx, .f3 .eorAbs, .f3 .eorAbx, .f3 .eorAby, .f2 .eorIzx, .f2 .eorIzy]
  | .bit => [.f2 .bitZp, .f3 .bitAbs]
  | .asl => [.f1 .aslAcc, .f2 .aslZp, .f2 .aslZpx, .f3 .aslAbs, .f3 .aslAbx]
  | .lsr => [.f1 .lsrAcc, .f2 .lsrZp, .f2 .lsrZpx, .f3 .lsrAbs, .f3 .lsrAbx]
  | .rol => [.f1 .rolAcc, .f2 .rolZp, .f2 .rolZpx, .f3 .rolAbs, .f3 .rolAbx]
  | .ror => [.f1 .rorAcc, .f2 .rorZp, .f2 .rorZpx, .f3 .rorAbs, .f3 .rorAbx]
  | .bcc => [.f2 .bcc]
  | .bcs => [.f2 .bcs]
  | .beq => [.f2 .beq]
  | .bne => [.f2 .bne]
  | .bmi => [.f2 .bmi]
  | .bpl => [.f2 .bpl]
  | .bvc => [.f2 .bvc]
  | .bvs => [.f2 .bvs]
  | .jmp => [.f3 .jmpAbs, .f3 .jmpInd]
  | .jsr => [.f3 .jsr]
  | .rts => [.f1 .rts]
  | .brk => [.f1 .brk]
  | .rti => [.f1 .rti]
  | .pha => [.f1 .pha]
  | .php => [.f1 .php]
  | .pla => [.f1 .pla]
  | .plp => [.f1 .plp]
  | .clc => [.f1 .clc]
  | .sec => [.f1 .sec]
  | .cli => [.f1 .cli]
  | .sei => [.f1 .sei]
  | .cld => [.f1 .cld]
  | .sed => [.f1 .sed]
  | .clv => [.f1 .clv]
  | .nop => [.f1 .nop]

/-- The operand's byte; 0 where its mode has none. -/
def Operand.byte : Operand → Byte
  | .imm b | .zp b | .zpx b | .zpy b | .izx b | .izy b | .rel b => b
  | _ => 0

/-- The operand's word; 0 where its mode has none. -/
def Operand.word : Operand → Word
  | .abs w | .abx w | .aby w | .ind w => w
  | _ => 0

/-- The format's instruction with the byte or word of an operand. -/
def Format.fill (o : Operand) : Format → Instr
  | .f1 i => i
  | .f2 mk => mk o.byte
  | .f3 mk => mk o.word

/-- The instruction a line names, if it names one. -/
def Line.instr? (l : Line) : Option Instr :=
  ((l.mnemonic.modes.zip l.mnemonic.formats).lookup l.operand.mode).map (Format.fill l.operand)

/-- An instruction's line names that instruction. -/
theorem Instr.instr?_line (i : Instr) : i.line.instr? = some i := by
  cases i <;> rfl

theorem Instr.line_wf (i : Instr) : i.line.wf = true := by
  cases i <;> rfl

/-- A well-formed line is that of the instruction it names. -/
theorem Line.map_line_instr? (l : Line) : l.instr?.map Instr.line = if l.wf then some l else none := by
  obtain ⟨m, o⟩ := l
  cases m <;> cases o <;> rfl

end Sys2Proof

namespace Sys2Proof.Proofs

/-- Settles O5: the line of an instruction names it, and a well-formed line is that of the instruction it names. -/
theorem legalLinesNameOneInstruction : Obligations.LegalLinesNameOneInstruction := by
  refine fun l => ⟨⟨fun hwf => ?_, ?_⟩, fun i j hi hj => ?_⟩
  · have h := l.map_line_instr?
    rw [if_pos hwf, Option.map_eq_some_iff] at h
    obtain ⟨i, -, hi⟩ := h
    exact ⟨i, hi⟩
  · rintro ⟨i, rfl⟩
    exact i.line_wf
  · apply Option.some.inj
    rw [← i.instr?_line, ← j.instr?_line, hi, hj]

end Sys2Proof.Proofs
end

section
/-! PROOFS. The two ends of a fetch: an illegal byte halts the machine (30_encoding.md R118, 60_exceptions.md R340), and an
instruction in memory is fetched without side effect (20_memory.md R79, R83). -/

namespace Sys2Proof

/-- The operand bytes and the opcode are as many as the mode's length (30_encoding.md R100). -/
theorem encode_length (i : Instr) : (encode i).length = i.length := by
  rw [encode, Instr.length]
  cases i.operand <;> rfl

theorem instr_length_le (i : Instr) : i.length ≤ 3 := by
  rw [Instr.length]
  cases i.operand.mode <;> decide

end Sys2Proof

namespace Sys2Proof.Machine
open Sys2Proof.Spec

theorem fetch_illegal {s : State} (h : opcodeFormat (busRead s.pc s).1 = none) :
    fetch s = (.illegal (busRead s.pc s).1, (busRead s.pc s).2) := by
  simp [fetch, h]

/-- A read of memory answers the byte there and leaves the state. -/
theorem busRead_memory {a : Word} (h : InMemory a) (s : State) : busRead a s = (peek a s, s) := by
  rcases h with h | h
  · rw [peek, busRead_ram h]
  · rw [peek, busRead_prg h]

/-- So do reads one after the other. -/
theorem readBytes_memory {n : Nat} {a : Word} {s : State} (h : ∀ k, k < n → InMemory (a + BitVec.ofNat 16 k)) :
    readBytes n a s = ((List.range n).map fun k => peek (a + BitVec.ofNat 16 k) s, s) := by
  induction n generalizing a with
  | zero => rfl
  | succ n ih =>
    have ha : InMemory a := by simpa using h 0 (Nat.succ_pos n)
    have next : ∀ k, a + 1 + BitVec.ofNat 16 k = a + BitVec.ofNat 16 (k + 1) := fun k => by
      rw [BitVec.add_assoc, Nat.add_comm k, BitVec.ofNat_add]; rfl
    rw [readBytes, busRead_memory ha, ih fun k hk => by rw [next]; exact h (k + 1) (by omega), List.range_succ_eq_map]
    simp only [next, List.map_cons, List.map_map, Function.comp_def, BitVec.add_zero, Nat.succ_eq_add_one]

end Sys2Proof.Machine

namespace Sys2Proof.Proofs
open Sys2Proof.Machine Sys2Proof.Spec

/-- Settles O10: the illegal bytes are those the decode table has no format for, and a fetch of one is that one read. -/
theorem illegalOpcodeHaltsTheMachine : Obligations.IllegalOpcodeHaltsTheMachine := by
  refine ⟨fun s hfault hnmi hop => ?_, fun s f hfault => ?_⟩
  · have hfetch := fetch_illegal ((opcodeFormat_eq_none_iff _).mpr hop)
    have hcpu : cpuStep s = .fault (.illegalOpcode s.pc (busRead s.pc s).1) := by simp [cpuStep, hnmi, hfetch]
    exact ⟨by simp [step, clockStep, hfault, hcpu], by simp [driverStep, hfault, hcpu, haltedBy, hfetch, State.setFault]⟩
  · exact ⟨by simp [step, clockStep, hfault], by simp [driverStep, hfault]⟩

/-- Settles O6: the bytes at PC begin with the instruction's encoding, and the fetch reads that encoding from memory. -/
theorem stepRunsTheDecodedInstruction : Obligations.StepRunsTheDecodedInstruction := by
  intro s i rest hfault hnmi hdecode hmemory
  have hread := readBytes_memory (s := s) hmemory
  have hbytes : (readBytes i.length s.pc s).1 = encode i := by
    have hthree := encodingADecodedInstructionGivesItsBytes _ _ _ hdecode
    have hpeeks : (List.range 3).map (fun k => peek (s.pc + BitVec.ofNat 16 k) s) = encode i ++ rest := by
      rw [hthree]; simp [List.range_succ]
    rw [hread, ← Nat.min_eq_left (instr_length_le i), ← List.take_range, List.map_take, hpeeks, ← encode_length,
      List.take_left]
  have hfetch : fetch s = (.instr i, s) := by
    have h := decodingAnEncodedInstructionGivesItBack i []
    rw [List.append_nil, ← hbytes] at h
    rw [fetch_of_decode_readBytes h, hread]
  exact step_of_fetch hfault hnmi hfetch

end Sys2Proof.Proofs
end

section
/-! PROOFS. What SetZN and the shifts leave of P, as the statements write it (00_scope.md R7, 42_logical_shift.md R170),
and the shifts of the accumulator (30_encoding.md R104). -/

namespace Sys2Proof.Machine
open Sys2Proof.Spec

theorem beq_zero_eq (v : Byte) : (v == 0) = decide (v.toNat = 0) := by
  rw [Bool.eq_iff_iff, beq_iff_eq, decide_eq_true_iff, ← BitVec.toNat_inj]; rfl

theorem getLsbD_seven_eq (v : Byte) : v.getLsbD 7 = decide (128 ≤ v.toNat) := BitVec.msb_eq_decide v

theorem getLsbD_zero_eq (v : Byte) : v.getLsbD 0 = decide (v.toNat % 2 = 1) := by
  rw [← BitVec.testBit_toNat, Nat.testBit_zero]

theorem setZN_followsByte (v p : Byte) : FollowsByte v p (setZN v p) :=
  ⟨(flag_setZN bitZ v p).trans (beq_zero_eq v), (flag_setZN bitN v p).trans (getLsbD_seven_eq v), setZN_onlyFlags v p⟩

theorem setZN_followsModify (v p : Byte) : FollowsModify v none p (setZN v p) := setZN_followsByte v p

theorem shift_followsModify (v p : Byte) (c : Bool) : FollowsModify v (some c) p (setZN v (setFlag bitC c p)) :=
  ⟨(flag_shift bitZ v p c).trans (beq_zero_eq v), (flag_shift bitN v p c).trans (getLsbD_seven_eq v),
    flag_shift bitC v p c, shift_onlyFlags v p c⟩

/-- The byte and the P the statements give a read-modify-write instruction are those of its operation. -/
theorem modified_modifyEffect {mn : Mnemonic} {m p v : Byte} {co : Option Bool}
    (h : modified mn m (carry p) = some (v, co)) :
    ∃ f, modifyEffect mn = some f ∧ (f m p).1 = v ∧ FollowsModify v co p (f m p).2 := by
  obtain ⟨f, hf, rfl⟩ := modified_result h
  refine ⟨f, hf, rfl, ?_⟩
  cases mn <;> cases hf <;> obtain ⟨-, rfl⟩ := Prod.mk.inj (Option.some.inj h)
  case inc | dec => exact setZN_followsModify _ p
  case asl | rol => rw [← getLsbD_seven_eq]; exact shift_followsModify _ p _
  case lsr | ror => rw [← getLsbD_zero_eq]; exact shift_followsModify _ p _

/-- The accumulator forms. -/
theorem exec_acc {i : Instr} {f : Byte → Byte → Byte × Byte} (ho : i.operand = .acc)
    (hf : modifyEffect i.mnemonic = some f) : exec i = modifyAcc 2 f := by
  cases i <;> cases ho <;> cases hf <;> rfl

end Sys2Proof.Machine

namespace Sys2Proof.Proofs
open Sys2Proof.Machine

/-- Settles O19: the form is its operation on A, which touches nothing behind the bus. -/
theorem accumulatorShiftsWriteA : Obligations.AccumulatorShiftsWriteA := by
  intro i s v co ho hv
  obtain ⟨f, hf, hresult, hflags⟩ := modified_modifyEffect hv
  rw [exec_acc ho hf]
  exact ⟨_, rfl, ⟨hresult, rfl, rfl, rfl⟩, hflags, ⟨BitVec.toNat_add s.pc 1, rfl⟩, rfl, rfl, rfl, rfl, rfl, rfl, rfl, rfl⟩

end Sys2Proof.Proofs
end

section
/-! PROOFS. The branches (43_branches.md R190 to R198): each is the common operation under its condition; the target and
its page in integer arithmetic (30_encoding.md R115, R124). -/

namespace Sys2Proof.Machine
open Sys2Proof.Spec

/-- The page of an address is its high byte. -/
theorem and_page_toNat (w : Word) : (w &&& 0xFF00).toNat = w.toNat / 256 * 256 := by
  have mask : ∀ k < 16, (0xFF00 : Word).getLsbD k = decide (8 ≤ k) := by decide
  have h : w &&& (0xFF00 : Word) = w >>> 8 <<< 8 := by
    apply BitVec.eq_of_getLsbD_eq
    intro k hk
    rw [BitVec.getLsbD_and, mask k hk]
    by_cases h8 : 8 ≤ k
    · simp [h8, hk, show ¬ k < 8 by omega]
    · simp [h8, show k < 8 by omega]
  have := w.isLt
  rw [h]
  simp [Nat.shiftLeft_eq, Nat.shiftRight_eq_div_pow]
  omega

/-- Two addresses lie in one page where their high bytes agree. -/
theorem pageDiffers_eq (u v : Word) : pageDiffers u v = decide (v.toNat / 256 ≠ u.toNat / 256) := by
  rw [pageDiffers, Bool.eq_iff_iff, bne_iff_ne, decide_eq_true_iff, Ne, ← BitVec.toNat_inj, and_page_toNat, and_page_toNat]
  omega

/-- The target, its displacement signed (R115). -/
theorem branchTarget_toNat (pc : Word) (off : Byte) :
    (branchTarget pc off).toNat = (((pc.toNat : Int) + 2 + off.toInt) % 65536).toNat := by
  have hoff : (sext16 off).toInt = off.toInt := BitVec.toInt_signExtend_of_le (by decide)
  have hsum : (branchTarget pc off).toNat = (pc.toNat + 2 + (sext16 off).toNat) % 65536 := by
    rw [branchTarget, BitVec.toNat_add, BitVec.toNat_add]; simp
  have := BitVec.toInt_eq_toNat_cond (sext16 off)
  rw [hsum, ← hoff, this]
  split <;> omega

/-- The relative forms, each under the condition the statements give it. -/
theorem exec_branch {i : Instr} {off : Byte} {s : State} {c : Bool} (ho : i.operand = .rel off)
    (hc : taken i.mnemonic s.p = some c) : exec i s = branchIf c off s := by
  cases i <;> cases ho <;> cases hc <;> rfl

end Sys2Proof.Machine

namespace Sys2Proof.Proofs
open Sys2Proof.Machine

/-- Settles O23, taken and not taken. -/
theorem branchesFollowTheirFlag : Obligations.BranchesFollowTheirFlag := by
  intro i s off c ho hc
  rw [exec_branch ho hc]
  have hnext : (s.pc + 2).toNat = (s.pc.toNat + 2) % 65536 := BitVec.toNat_add s.pc 2
  rw [← branchTarget_toNat, ← hnext]
  cases c with
  | false => exact ⟨_, rfl, rfl, rfl, ⟨rfl, rfl, rfl, rfl⟩, rfl, rfl, rfl, rfl, rfl, rfl, rfl, rfl, rfl⟩
  | true =>
    refine ⟨_, rfl, rfl, ?_, ⟨rfl, rfl, rfl, rfl⟩, rfl, rfl, rfl, rfl, rfl, rfl, rfl, rfl, rfl⟩
    simp only [State.setPc, State.setCyc, pageDiffers_eq, if_true]
    split <;> simp_all

end Sys2Proof.Proofs
end

section
/-! PROOFS. What a step costs (30_encoding.md R117, R122 to R124, 49_master_clock.md R326): the base cycles of each shape,
then the page penalty or the DMA at most. -/

namespace Sys2Proof.Machine
open Sys2Proof.Spec

/-! The base cycles of each shape (R117) -/

theorem exec_read_base {i : Instr} {f : Byte → State → State} (hf : readEffect i.mnemonic = some f) :
    (∃ b, exec i = readImm 2 f b) ∨ ∃ base o, 3 ≤ base ∧ base ≤ 6 ∧ exec i = readMem base f o := by
  cases i <;> cases hf
  case ldaImm | ldxImm | ldyImm | adcImm | sbcImm | cmpImm | cpxImm | cpyImm | andImm | oraImm | eorImm =>
    exact .inl ⟨_, rfl⟩
  all_goals exact .inr ⟨_, _, by decide, by decide, rfl⟩

theorem exec_store_base {i : Instr} {v : State → Byte} (hv : storedRegister i.mnemonic = some v) :
    ∃ base o, 3 ≤ base ∧ base ≤ 6 ∧ exec i = fun s => storeMem base (v s) o s := by
  cases i <;> cases hv <;> exact ⟨_, _, by decide, by decide, rfl⟩

theorem exec_modify_base {i : Instr} {f : Byte → Byte → Byte × Byte} (hf : modifyEffect i.mnemonic = some f) :
    exec i = modifyAcc 2 f ∨ ∃ base o, 5 ≤ base ∧ base ≤ 7 ∧ exec i = modifyMem base f o := by
  cases i <;> cases hf
  case aslAcc | lsrAcc | rolAcc | rorAcc => exact .inl rfl
  all_goals exact .inr ⟨_, _, by decide, by decide, rfl⟩

theorem exec_register {i : Instr} {f : State → State} (hf : registerEffect i.mnemonic = some f) :
    exec i = implied 2 f := by
  cases i <;> cases hf <;> rfl

theorem exec_push {i : Instr} {v : State → Byte} (hv : pushedByte i.mnemonic = some v) :
    exec i = implied 3 fun s => push (v s) s := by
  cases i <;> cases hv <;> rfl

theorem exec_pull {i : Instr} {f : Byte → State → State} (hf : pulledEffect i.mnemonic = some f) :
    exec i = implied 4 fun s => f (pull s).1 (pull s).2 := by
  cases i <;> cases hf <;> rfl

/-! The effects set no cycle count -/

theorem readEffect_cyc {m : Mnemonic} {f : Byte → State → State} (h : readEffect m = some f) (b : Byte) (s : State) :
    (f b s).cyc = s.cyc := by
  unfold readEffect at h; split at h <;> cases h <;> rfl

theorem registerEffect_cyc {m : Mnemonic} {f : State → State} (h : registerEffect m = some f) (s : State) :
    (f s).cyc = s.cyc := by
  unfold registerEffect at h; split at h <;> cases h <;> rfl

theorem pulledEffect_cyc {m : Mnemonic} {f : Byte → State → State} (h : pulledEffect m = some f) (b : Byte)
    (s : State) : (f b s).cyc = s.cyc := by
  unfold pulledEffect at h; split at h <;> cases h <;> rfl

@[simp] theorem advance_cyc (n : Nat) (s : State) : (advance n s).cyc = s.cyc := rfl

theorem pagePenalty_le (e : EffAddr) : pagePenalty e ≤ 1 := by
  unfold pagePenalty; split <;> omega

theorem busWrite_cyc_bounds (addr : Word) (v : Byte) (s : State) :
    s.cyc ≤ (busWrite addr v s).cyc ∧ (busWrite addr v s).cyc ≤ s.cyc + 513 := by
  rw [busWrite_cyc]; split <;> omega

/-- A CPU step's cycles, the DMA's among them (R122). -/
def CostInRange (t : State) : Prop := 2 ≤ t.cyc ∧ t.cyc ≤ 520

theorem CostInRange.of_eq {t : State} (n : Nat) (h : t.cyc = n) (h2 : 2 ≤ n := by decide) (h7 : n ≤ 7 := by decide) :
    CostInRange t := by
  unfold CostInRange; omega

theorem read_cost {i : Instr} {f : Byte → State → State} {s t : State} (hf : readEffect i.mnemonic = some f)
    (h : exec i s = .next t) : CostInRange t := by
  rcases exec_read_base hf with ⟨b, he⟩ | ⟨base, o, hlo, hhi, he⟩
  · rw [he] at h; cases h
    exact .of_eq 2 (readEffect_cyc hf b _)
  · rw [he, readMem_eq] at h; cases h
    have := pagePenalty_le (resolve o s).1
    exact .of_eq _ (readEffect_cyc hf _ _) (by simp; omega) (by simp; omega)

theorem store_cost {i : Instr} {v : State → Byte} {s t : State} (hv : storedRegister i.mnemonic = some v)
    (h : exec i s = .next t) : CostInRange t := by
  obtain ⟨base, o, hlo, hhi, he⟩ := exec_store_base hv
  simp only [he, storeMem_eq] at h; cases h
  have hw := busWrite_cyc_bounds (resolve o s).1.addr (v s) (s.setCyc base)
  simp only [CostInRange, advance_cyc, State.setCyc_fields] at hw ⊢
  omega

theorem modify_cost {i : Instr} {f : Byte → Byte → Byte × Byte} {s t : State} (hf : modifyEffect i.mnemonic = some f)
    (h : exec i s = .next t) : CostInRange t := by
  rcases exec_modify_base hf with he | ⟨base, o, hlo, hhi, he⟩
  · rw [he] at h; cases h; exact .of_eq 2 rfl
  · rw [he, modifyMem_eq] at h; cases h
    have hw := busWrite_cyc_bounds (resolve o s).1.addr (f (busRead (resolve o s).1.addr s).1 s.p).1
      ((busRead (resolve o s).1.addr s).2.setCyc base)
    simp only [CostInRange, advance_cyc, State.setCyc_fields, State.setP_fields] at hw ⊢
    omega

/-- Every instruction's cycles, whatever the operand and the state. -/
theorem exec_cost {i : Instr} {s t : State} (h : exec i s = .next t) : CostInRange t := by
  cases exec_shape i with
  | readImm hf | readMem hf => exact read_cost hf h
  | store hv => exact store_cost hv h
  | modifyMem hf | modifyAcc hf => exact modify_cost hf h
  | register hf =>
    rw [exec_register hf] at h; cases h
    exact .of_eq 2 (registerEffect_cyc hf _)
  | push hv =>
    rw [exec_push hv] at h; cases h
    simp only [push_eq]
    exact .of_eq 3 rfl
  | pull hf =>
    rw [exec_pull hf] at h; cases h
    exact .of_eq 4 (by simp [pulledEffect_cyc hf, pull_eq])
  | branch hc off he =>
    simp only [he, branchIf] at h
    split at h
    · cases h; exact .of_eq (2 + 1 + if pageDiffers _ _ then 1 else 0) rfl (by omega) (by split <;> omega)
    · cases h; exact .of_eq 2 rfl
  | jmpAbs hm w he => rw [he] at h; cases h; exact .of_eq 3 rfl
  | jmpInd hm w he => rw [he] at h; cases h; exact .of_eq 5 rfl
  | jsr hm w he => rw [he] at h; cases h; rw [pushWord_eq]; exact .of_eq 6 rfl
  | rts hm he => rw [he, execRts, pullWord_eq] at h; cases h; exact .of_eq 6 rfl
  | brk hm he =>
    rw [he, execBrk, enterHandler_eq (by decide) (by decide)] at h; cases h
    exact .of_eq 7 rfl
  | rti hm he => rw [he, execRti, returnFromHandler_eq] at h; cases h; exact .of_eq 6 rfl

/-- The NMI entry takes 7 cycles (60_exceptions.md R346), any other CPU step those of its instruction. -/
theorem cpuStep_cost {s t : State} (h : cpuStep s = .next t) : CostInRange t := by
  unfold cpuStep at h
  split at h
  · cases h
    rw [nmiEntry, enterHandler_eq (by decide) (by decide)]
    exact .of_eq 7 rfl
  · split at h
    · exact exec_cost h
    · cases h

/-- No bus access advances the clock. -/
theorem clock_busInvariant (c : Clock) : BusInvariant fun s => s.clk = c where
  registers h hb := (congrArg (·.2.2.2.2.1) hb).trans h
  portRead _ h := h
  joyRead h := h
  ramWrite _ _ h := h
  portWrite k v h := by simpa [portWrite_fields] using h
  joyWrite _ h := h
  oamPut _ _ h := h

/-- The end of a step adds its cycles and three dots for each (49_master_clock.md R326, R330). -/
theorem endStep_clk (s : State) :
    (endStep s).clk = { cpuCycles := s.clk.cpuCycles + s.cyc, ppuDots := s.clk.ppuDots + 3 * s.cyc } := by
  simp [runDots]

end Sys2Proof.Machine

namespace Sys2Proof.Proofs
open Sys2Proof.Machine

/-- Settles O37: the CPU's part costs what its shape does and leaves the clock; the end of the step adds that cost. -/
theorem stepCostsTwoToFiveHundredTwentyCycles : Obligations.StepCostsTwoToFiveHundredTwentyCycles := by
  intro s t h
  obtain ⟨u, hu, rfl⟩ := step_next h
  have hcyc : (endStep u).cyc = u.cyc := by simp
  have hclk : u.clk = s.clk := (clock_busInvariant s.clk).cpuStep rfl hu
  obtain ⟨hlo, hhi⟩ := cpuStep_cost hu
  rw [endStep_clk, hcyc, hclk]
  exact ⟨hlo, hhi, rfl, rfl⟩

end Sys2Proof.Proofs
end

section
/-! PROOFS. How a form that reads its operand ends, in the statements' vocabulary: its cost with the page-cross cycle
(30_encoding.md R117, R123), its length (R100, R121) and what its read leaves behind the bus; and, the same way, how a
one-byte form that only writes registers ends. -/

namespace Sys2Proof.Machine
open Sys2Proof.Spec

/-! The end of an instruction -/

theorem ends_advance {s u : State} {cyc : Nat} (len : Nat) (hpc : u.pc = s.pc) (hcyc : u.cyc = cyc) :
    Ends s (advance len u) len cyc := by
  refine ⟨?_, hcyc⟩
  rw [advance, (State.setPc_fields _ _).2.2.2.2.1, hpc, BitVec.toNat_add, BitVec.toNat_ofNat, Nat.add_mod_mod]

/-- Outside the registers lie the bus and the two latches. -/
theorem sameDevices_of_bus {u t : State} (hb : t.bus = u.bus) (hn : t.nmiPending = u.nmiPending)
    (hf : t.fault = u.fault) : SameDevices u t := by
  simp only [State.bus, Prod.mk.injEq] at hb
  obtain ⟨hram, hcart, hppu, hjoy, hclk, hparams⟩ := hb
  exact ⟨hram, hcart, hppu, hjoy, hclk, hn, hf, hparams⟩

theorem regs_eq_iff {t : State} {a x y sp p : Byte} : t.regs = (a, x, y, sp, p) ↔ Regs t a x y sp ∧ t.p = p := by
  simp [State.regs, Regs, and_assoc]

/-- PC and the two latches: the part of the state that is neither a register of `regs`, nor behind the bus, nor `cyc`. -/
def State.latches (s : State) : Word × Bool × Option Fault := (s.pc, s.nmiPending, s.fault)

theorem latches_eq_iff {s t : State} :
    t.latches = s.latches ↔ t.pc = s.pc ∧ t.nmiPending = s.nmiPending ∧ t.fault = s.fault := by
  simp [State.latches]

/-! Forms that read their operand -/

theorem memLength_eq_size (o : MemOperand) : memLength o = size o := by cases o <;> rfl

/-- The base cycles of a memory form that reads its operand (R117). -/
def readBase : MemOperand → Nat
  | .zp _ => 3
  | .zpx _ | .zpy _ | .abs _ | .abx _ | .aby _ => 4
  | .izx _ => 6
  | .izy _ => 5

theorem pagePenalty_indexed (base : Word) (index : Byte) :
    pagePenalty (indexed base index) = (base.toNat % 256 + index.toNat) / 256 := by
  have hpx : (indexed base index).px = decide ((indexed base index).addr.toNat / 256 ≠ base.toNat / 256) :=
    pageDiffers_eq _ _
  have hbase : base.toNat < 65536 := base.isLt
  have hindex : index.toNat < 256 := index.isLt
  rw [pagePenalty, hpx, indexed_toNat]
  simp only [decide_eq_true_eq]
  split <;> omega

/-- The base and the penalty of a reading form are the cost the rules give it (R117, R123). -/
theorem readBase_add_pagePenalty (o : MemOperand) (s : State) :
    readBase o + pagePenalty (resolve o s).1 = readCost s o := by
  cases o with
  | abx w => exact congrArg (4 + ·) (pagePenalty_indexed w s.x)
  | aby w => exact congrArg (4 + ·) (pagePenalty_indexed w s.y)
  | izy b =>
    have hlow : (memRead16zp b s).1.toNat % 256 = (s.ram.read b.toNat).toNat := by
      have : (s.ram.read b.toNat).toNat < 256 := (s.ram.read b.toNat).isLt
      rw [memRead16zp_pointer, pointer]; omega
    exact congrArg (5 + ·) ((pagePenalty_indexed _ s.y).trans (by rw [hlow]; rfl))
  | _ => rfl

theorem exec_readImm {i : Instr} {b : Byte} {f : Byte → State → State} (ho : i.operand = .imm b)
    (hf : readEffect i.mnemonic = some f) : exec i = readImm 2 f b := by
  cases i <;> cases ho <;> cases hf <;> rfl

theorem exec_readMem {i : Instr} {o : MemOperand} {f : Byte → State → State} (ho : dataOperand i.operand = some o)
    (hf : readEffect i.mnemonic = some f) : exec i = readMem (readBase o) f o := by
  cases i <;> cases ho <;> cases hf <;> rfl

/-- The operand byte comes from the instruction or from one bus read of the address the operand names. -/
theorem source_cases {s : State} {o : Operand} {r : Source} (h : source s o = some r) :
    (∃ b, o = .imm b ∧ r = { byte := b, after := s, cycles := 2, length := 2 }) ∨
    ∃ m, dataOperand o = some m ∧
      r = { byte := (busRead (busAddress s m) s).1, after := (busRead (busAddress s m) s).2, cycles := readCost s m,
            length := size m } := by
  unfold source at h
  split at h
  · next b => exact .inl ⟨b, rfl, (Option.some.inj h).symm⟩
  · obtain ⟨m, hm, hr⟩ := Option.map_eq_some_iff.mp h
    exact .inr ⟨m, hm, hr.symm⟩

/-- Finding the operand byte changes nothing of the CPU. -/
theorem source_after {s : State} {o : Operand} {r : Source} (h : source s o = some r) :
    r.after.regs = s.regs ∧ r.after.latches = s.latches := by
  rcases source_cases h with ⟨b, -, rfl⟩ | ⟨m, -, rfl⟩
  · exact ⟨rfl, rfl⟩
  · exact ⟨busRead_regs _ s, by simp [State.latches]⟩

/-- A form that reads its operand is its effect on the byte its source gives, at the source's cost and length. -/
theorem exec_source {i : Instr} {s : State} {r : Source} {f : Byte → State → State}
    (hr : source s i.operand = some r) (hf : readEffect i.mnemonic = some f) :
    exec i s = .next (advance r.length (f r.byte (r.after.setCyc r.cycles))) := by
  rcases source_cases hr with ⟨b, ho, rfl⟩ | ⟨m, ho, rfl⟩
  · rw [exec_readImm ho hf, readImm]
  · rw [exec_readMem ho hf, readMem_eq, resolve_addr, readBase_add_pagePenalty, memLength_eq_size]

theorem readEffect_latches {m : Mnemonic} {f : Byte → State → State} (h : readEffect m = some f) (b : Byte)
    (s : State) : (f b s).latches = s.latches := by
  unfold readEffect at h; split at h <;> cases h <;> rfl

/-- A read form's effect on the registers depends on the byte and the registers only. -/
theorem readEffect_regs {m : Mnemonic} {f : Byte → State → State} (h : readEffect m = some f) (b : Byte) {s t : State}
    (hst : t.regs = s.regs) : (f b t).regs = (f b s).regs := by
  obtain ⟨⟨ha, hx, hy, hsp⟩, hp⟩ := regs_eq_iff.mp hst
  unfold readEffect at h
  split at h <;> cases h <;>
    simp [State.regs, loadA, loadX, loadY, adcA, sbcA, aluA, cmpA, cmpX, cmpY, andA, oraA, eorA, bitA, ha, hx, hy, hsp, hp]

/-- How a form that reads its operand ends: the registers as its effect on the byte leaves them, the rest as the read
does. -/
theorem exec_source_ends {i : Instr} {s : State} {r : Source} {f : Byte → State → State}
    (hr : source s i.operand = some r) (hf : readEffect i.mnemonic = some f) :
    ∃ t, exec i s = .next t ∧ t.regs = (f r.byte s).regs ∧ Ends s t r.length r.cycles ∧ SameDevices r.after t := by
  obtain ⟨hregs, hlatches⟩ := source_after hr
  obtain ⟨hpc, hnmi, hfault⟩ := latches_eq_iff.mp (readEffect_latches hf r.byte (r.after.setCyc r.cycles))
  have hpc' : r.after.pc = s.pc := (latches_eq_iff.mp hlatches).1
  exact ⟨_, exec_source hr hf, readEffect_regs hf r.byte hregs,
    ends_advance r.length (hpc.trans hpc') (readEffect_cyc hf _ _),
    sameDevices_of_bus (readEffect_bus hf _ _) hnmi hfault⟩

/-- The same where the effect sets Z and N from a byte `v`. -/
theorem exec_source_setZN {i : Instr} {s : State} {r : Source} {f : Byte → State → State} {v a x y sp : Byte}
    (hr : source s i.operand = some r) (hf : readEffect i.mnemonic = some f)
    (hregs : (f r.byte s).regs = (a, x, y, sp, setZN v s.p)) :
    ∃ t, exec i s = .next t ∧ Regs t a x y sp ∧ FollowsByte v s.p t.p ∧ Ends s t r.length r.cycles ∧
      SameDevices r.after t := by
  obtain ⟨t, he, ht, hends, hdev⟩ := exec_source_ends hr hf
  obtain ⟨hregs', hp⟩ := regs_eq_iff.mp (ht.trans hregs)
  exact ⟨t, he, hregs', hp ▸ setZN_followsByte _ _, hends, hdev⟩

/-! One-byte forms that only write registers -/

theorem registerEffect_latches {m : Mnemonic} {f : State → State} (h : registerEffect m = some f) (s : State) :
    (f s).latches = s.latches := by
  unfold registerEffect at h; split at h <;> cases h <;> rfl

theorem registerEffect_setCyc_regs {m : Mnemonic} {f : State → State} (h : registerEffect m = some f) (n : Nat)
    (s : State) : (f (s.setCyc n)).regs = (f s).regs := by
  unfold registerEffect at h; split at h <;> cases h <;> rfl

/-- How such a form ends: the registers as its effect leaves them, nothing else changed, in 2 cycles. -/
theorem exec_register_ends {i : Instr} {f : State → State} (hf : registerEffect i.mnemonic = some f) (s : State) :
    ∃ t, exec i s = .next t ∧ t.regs = (f s).regs ∧ EndsImplied s t 2 := by
  obtain ⟨hpc, hnmi, hfault⟩ := latches_eq_iff.mp (registerEffect_latches hf (s.setCyc 2))
  rw [exec_register hf]
  exact ⟨_, rfl, registerEffect_setCyc_regs hf 2 s, ends_advance 1 hpc (registerEffect_cyc hf _),
    sameDevices_of_bus (registerEffect_bus hf _) hnmi hfault⟩

/-- The same where the effect sets Z and N from a byte `v`. -/
theorem exec_register_setZN {i : Instr} {s : State} {f : State → State} {v a x y sp : Byte}
    (hf : registerEffect i.mnemonic = some f) (hregs : (f s).regs = (a, x, y, sp, setZN v s.p)) :
    ∃ t, exec i s = .next t ∧ Regs t a x y sp ∧ FollowsByte v s.p t.p ∧ EndsImplied s t 2 := by
  obtain ⟨t, he, ht, hends⟩ := exec_register_ends hf s
  obtain ⟨hregs', hp⟩ := regs_eq_iff.mp (ht.trans hregs)
  exact ⟨t, he, hregs', hp ▸ setZN_followsByte _ _, hends⟩

end Sys2Proof.Machine

namespace Sys2Proof.Proofs
open Sys2Proof.Machine Sys2Proof.Spec

/-- Settles O12: the three loads differ in the register their effect writes. -/
theorem loadsWriteTheRegisterAndSetZN : Obligations.LoadsWriteTheRegisterAndSetZN := by
  intro i s r hr
  refine ⟨fun hm => ?lda, fun hm => ?ldx, fun hm => ?ldy⟩
  case lda | ldx | ldy => exact exec_source_setZN hr (congrArg readEffect hm) rfl

/-- Settles O13: five transfers set Z and N from the byte copied; TXS only writes S. -/
theorem transfersCopyOneRegister : Obligations.TransfersCopyOneRegister := by
  intro s
  refine ⟨?tax, ?tay, ?txa, ?tya, ?tsx, ?txs⟩
  case tax | tay | txa | tya | tsx => exact exec_register_setZN rfl rfl
  obtain ⟨t, he, ht, hends⟩ := exec_register_ends (i := .txs) rfl s
  obtain ⟨hregs, hp⟩ := regs_eq_iff.mp ht
  exact ⟨t, he, hregs, hp, hends⟩

end Sys2Proof.Proofs
end

section
/-! PROOFS. Stores (40_load_store_transfer.md R134 to R136): one bus write, which the cycle count set before it does not
reach; the DMA's cycles are added to that count (30_encoding.md R122). -/

namespace Sys2Proof.Machine
open Sys2Proof.Spec

theorem oamDmaCopy_setCyc (page : Byte) (c n i : Nat) (s : State) :
    oamDmaCopy page n i (s.setCyc c) = (oamDmaCopy page n i s).setCyc c := by
  induction n generalizing i s with
  | zero => rfl
  | succ n ih =>
    simp only [oamDmaCopy, busRead_setCyc]
    exact ih (i + 1) (oamDmaPut i (busRead (page ++ BitVec.ofNat 8 i) s).1 (busRead (page ++ BitVec.ofNat 8 i) s).2)

theorem portWrite_setCyc (port : BitVec 3) (v : Byte) (c : Nat) (s : State) :
    portWrite port v (s.setCyc c) = (portWrite port v s).setCyc c := by
  unfold portWrite
  generalize port.toNat = n
  simp only []
  split <;> rfl

/-- What a bus write leaves behind the bus does not depend on the cycle count. -/
theorem busWrite_setCyc_bus (addr : Word) (v : Byte) (c : Nat) (s : State) :
    (busWrite addr v (s.setCyc c)).bus = (busWrite addr v s).bus := by
  unfold busWrite
  cases busTarget addr with
  | port p => exact (congrArg State.bus (portWrite_setCyc p v c s)).trans (setCyc_bus c _)
  | dma => simp only [oamDma, setCyc_bus, oamDmaCopy_setCyc]
  | _ => rfl

/-- A write to an operand's address costs the DMA's cycles where the rules say. -/
theorem busWrite_operand_cyc (s u : State) (o : MemOperand) (v : Byte) :
    (busWrite (busAddress s o) v u).cyc = u.cyc + dmaCost (address s o) := by
  have haddr : busAddress s o = 0x4014 ↔ address s o = 0x4014 := by
    rw [← busAddress_toNat, ← BitVec.toNat_inj]; rfl
  simp only [busWrite_cyc, haddr, dmaCost]

end Sys2Proof.Machine

namespace Sys2Proof.Proofs
open Sys2Proof.Machine Sys2Proof.Spec

/-- Settles O14: a store is one bus write after its cycles are set, then PC moves on. -/
theorem storesWriteTheBusAndChangeNoFlag : Obligations.StoresWriteTheBusAndChangeNoFlag := by
  intro i s o v ho hv
  rw [exec_store ho hv, storeMem_eq, resolve_addr, memLength_eq_size]
  have hregs := (busWrite_regs (busAddress s o) v (s.setCyc (storeCost o))).trans (setCyc_regs (storeCost o) s)
  obtain ⟨hregs', hp⟩ := regs_eq_iff.mp hregs
  exact ⟨_, rfl, hregs', hp, ends_advance _ (by simp) (busWrite_operand_cyc s _ o v),
    sameDevices_of_bus (busWrite_setCyc_bus _ v _ s) (by simp [advance]) (by simp [advance])⟩

end Sys2Proof.Proofs
end

section
/-! PROOFS. The adder and the comparison in integer arithmetic (41_arithmetic.md R150 to R155, R162), the index steps
(R157, R158, R160, R161), and the memory forms of the read-modify-write instructions (R156, R159, 42_logical_shift.md R170). -/

namespace Sys2Proof.Machine
open Sys2Proof.Spec

/-! ADC and SBC -/

theorem toNat_adc (a m p : Byte) : (adc a m p).1.toNat = (a.toNat + m.toNat + (carry p).toNat) % 256 :=
  BitVec.toNat_ofNat _ _

theorem and_signBit_ne_zero (v : Byte) : (v &&& 0x80 != 0) = v.getLsbD 7 := by
  revert v; decide

/-- The adder's V (R150) is set where the operands have one sign and the sum's byte has the other. -/
theorem vMask_eq_signs (a m r : Byte) :
    (~~~(a ^^^ m) &&& (a ^^^ r) &&& 0x80 != 0) = (a.getLsbD 7 == m.getLsbD 7 && a.getLsbD 7 != r.getLsbD 7) := by
  rw [and_signBit_ne_zero, BitVec.getLsbD_and, BitVec.getLsbD_not, BitVec.getLsbD_xor, BitVec.getLsbD_xor]
  cases a.getLsbD 7 <;> cases m.getLsbD 7 <;> cases r.getLsbD 7 <;> rfl

/-- That is where the signed sum leaves the range of a byte. -/
theorem signs_eq_signedOverflow {a m r : Byte} {c : Bool} (hr : r.toNat = (a.toNat + m.toNat + c.toNat) % 256) :
    (a.getLsbD 7 == m.getLsbD 7 && a.getLsbD 7 != r.getLsbD 7) =
      decide (a.toInt + m.toInt + c.toNat < -128 ∨ 127 < a.toInt + m.toInt + c.toNat) := by
  have ha : a.toNat < 256 := a.isLt
  have hm : m.toNat < 256 := m.isLt
  have hc := Bool.toNat_le c
  rw [Bool.eq_iff_iff]
  simp only [getLsbD_seven_eq, BitVec.toInt_eq_toNat_cond, Bool.and_eq_true, beq_iff_eq, bne_iff_ne, ne_eq,
    decide_eq_decide, decide_eq_true_eq]
  omega

theorem adc_reportsSum (a m p : Byte) :
    ReportsSum (a.toNat + m.toNat + (carry p).toNat) (a.toInt + m.toInt + (carry p).toNat) (adc a m p).1 p
      (adc a m p).2 := by
  have hsum := toNat_adc a m p
  refine ⟨by rw [hsum]; omega, ?carry, ?overflow, ?zero, ?negative, adc_onlyFlags a m p⟩
  case carry =>
    have hflag : carry (adc a m p).2 = decide (255 < a.toNat + m.toNat + (carry p).toNat) := flag_adc bitC a m p
    rw [hflag, decide_eq_decide]
    omega
  case overflow => exact (flag_adc bitV a m p).trans ((vMask_eq_signs a m _).trans (signs_eq_signedOverflow hsum))
  case zero => exact (flag_adc bitZ a m p).trans (beq_zero_eq _)
  case negative => exact (flag_adc bitN a m p).trans (getLsbD_seven_eq _)

/-- The one's complement of `m` is `255 - m` unsigned and `-1 - m` signed, so SBC is the difference (R152). -/
theorem sbc_reportsSum (a m p : Byte) :
    ReportsSum (a.toNat - m.toNat - (1 - (carry p).toNat) + 256) (a.toInt - m.toInt - (1 - (carry p).toNat))
      (sbc a m p).1 p (sbc a m p).2 := by
  have hnot : m ^^^ 0xFF = ~~~m := BitVec.xor_allOnes
  have hm : m.toNat < 256 := m.isLt
  have hunsigned : ((m ^^^ 0xFF).toNat : Int) = 255 - m.toNat := by rw [hnot, BitVec.toNat_not]; omega
  have hsigned : (m ^^^ 0xFF).toInt = -1 - m.toInt := by
    rw [hnot, BitVec.toInt_eq_toNat_cond, BitVec.toInt_eq_toNat_cond, BitVec.toNat_not]
    omega
  have h := adc_reportsSum a (m ^^^ 0xFF) p
  rwa [hunsigned, hsigned,
    show (a.toNat : Int) + (255 - m.toNat) + (carry p).toNat = a.toNat - m.toNat - (1 - (carry p).toNat) + 256 by ring,
    show a.toInt + (-1 - m.toInt) + (carry p).toNat = a.toInt - m.toInt - (1 - (carry p).toNat) by ring] at h

/-- A form whose effect is an ALU result into A, where that result reports a sum. -/
theorem exec_source_sum {i : Instr} {s : State} {r : Source} {f : Byte → State → State} {u z : Int} {op : Byte × Byte}
    (hr : source s i.operand = some r) (hf : readEffect i.mnemonic = some f)
    (heffect : f r.byte s = aluA op s) (hop : ReportsSum u z op.1 s.p op.2) :
    ∃ t, exec i s = .next t ∧ Regs t t.a s.x s.y s.sp ∧ ReportsSum u z t.a s.p t.p ∧ Ends s t r.length r.cycles ∧
      SameDevices r.after t := by
  obtain ⟨t, he, ht, hends, hdev⟩ := exec_source_ends hr hf
  rw [heffect] at ht
  obtain ⟨⟨ha, hrest⟩, hp⟩ := regs_eq_iff.mp ht
  exact ⟨t, he, ⟨rfl, hrest⟩, ha ▸ hp ▸ hop, hends, hdev⟩

/-! Comparisons -/

theorem compareP_reportsCompare (r m p : Byte) : ReportsCompare r m p (compareP r m p) := by
  refine ⟨flag_compareP bitC r m p, ?zero, ?negative, compareP_onlyFlags r m p⟩
  case zero =>
    have hbeq : (r == m) = decide (r.toNat = m.toNat) := by
      rw [Bool.eq_iff_iff, beq_iff_eq, decide_eq_true_iff, BitVec.toNat_inj]
    exact (flag_compareP bitZ r m p).trans hbeq
  case negative =>
    have hm : m.toNat < 256 := m.isLt
    have hdiff : (r - m).toNat = (r.toNat + 256 - m.toNat) % 256 := by rw [BitVec.toNat_sub]; omega
    rw [← hdiff]
    exact (flag_compareP bitN r m p).trans (getLsbD_seven_eq _)

/-- A form that compares the register `reg` with its operand. -/
theorem exec_source_compare {i : Instr} {s : State} {r : Source} {f : Byte → State → State} {reg : Byte}
    (hr : source s i.operand = some r) (hf : readEffect i.mnemonic = some f)
    (heffect : f r.byte s = s.setP (compareP reg r.byte s.p)) :
    ∃ t, exec i s = .next t ∧ ReportsCompare reg r.byte s.p t.p ∧ LeavesRegs s r t := by
  obtain ⟨t, he, ht, hends, hdev⟩ := exec_source_ends hr hf
  rw [heffect] at ht
  obtain ⟨hregs, hp⟩ := regs_eq_iff.mp ht
  exact ⟨t, he, hp ▸ compareP_reportsCompare reg r.byte s.p, hregs, hends, hdev⟩

/-! Index steps -/

theorem toNat_incOp (m p : Byte) : (incOp m p).1.toNat = (m.toNat + 1) % 256 := by
  rw [incOp_result, BitVec.toNat_ofNat]

theorem toNat_decOp (m p : Byte) : (decOp m p).1.toNat = (m.toNat + 255) % 256 := by
  rw [decOp_result, BitVec.toNat_ofNat]

/-- A one-byte form that writes X and sets Z and N from it. -/
theorem exec_register_stepX {i : Instr} {s : State} {f : State → State} {v : Byte} {n : Nat}
    (hf : registerEffect i.mnemonic = some f) (hregs : (f s).regs = (s.a, v, s.y, s.sp, setZN v s.p))
    (hv : v.toNat = n) :
    ∃ t, exec i s = .next t ∧ t.x.toNat = n ∧ Regs t s.a t.x s.y s.sp ∧ FollowsByte t.x s.p t.p ∧
      EndsImplied s t 2 := by
  obtain ⟨t, he, ⟨ha, rfl, hy, hsp⟩, hflags, hends⟩ := exec_register_setZN hf hregs
  exact ⟨t, he, hv, ⟨ha, rfl, hy, hsp⟩, hflags, hends⟩

/-- A one-byte form that writes Y and sets Z and N from it. -/
theorem exec_register_stepY {i : Instr} {s : State} {f : State → State} {v : Byte} {n : Nat}
    (hf : registerEffect i.mnemonic = some f) (hregs : (f s).regs = (s.a, s.x, v, s.sp, setZN v s.p))
    (hv : v.toNat = n) :
    ∃ t, exec i s = .next t ∧ t.y.toNat = n ∧ Regs t s.a s.x t.y s.sp ∧ FollowsByte t.y s.p t.p ∧
      EndsImplied s t 2 := by
  obtain ⟨t, he, ⟨ha, hx, rfl, hsp⟩, hflags, hends⟩ := exec_register_setZN hf hregs
  exact ⟨t, he, hv, ⟨ha, hx, rfl, hsp⟩, hflags, hends⟩

end Sys2Proof.Machine

namespace Sys2Proof.Proofs
open Sys2Proof.Machine Sys2Proof.Spec

/-- Settles O16: both are the adder on A, SBC with the byte's complement. -/
theorem adcAndSbcObeyTheIntegerLaws : Obligations.AdcAndSbcObeyTheIntegerLaws := by
  intro i s r hr
  refine ⟨fun hm => ?adc, fun hm => ?sbc⟩
  case adc => exact exec_source_sum hr (congrArg readEffect hm) rfl (adc_reportsSum s.a r.byte s.p)
  case sbc => exact exec_source_sum hr (congrArg readEffect hm) rfl (sbc_reportsSum s.a r.byte s.p)

/-- Settles O17: the three compares differ in the register. -/
theorem comparesReportTheUnsignedOrder : Obligations.ComparesReportTheUnsignedOrder := by
  intro i s r hr
  refine ⟨fun hm => ?cmp, fun hm => ?cpx, fun hm => ?cpy⟩
  case cmp | cpx | cpy => exact exec_source_compare hr (congrArg readEffect hm) rfl

/-- Settles O18: the write leaves the registers the read left, and then P takes the operation's flags. -/
theorem modifyFormsReadThenWriteTheSameAddress : Obligations.ModifyFormsReadThenWriteTheSameAddress := by
  intro i s o v co ho hv
  obtain ⟨f, hf, rfl, hflags⟩ := modified_modifyEffect hv
  rw [exec_modify ho hf, modifyMem_eq, resolve_addr, memLength_eq_size]
  exact ⟨_, rfl, by simp [Regs, advance], hflags, ends_advance _ (by simp) (busWrite_operand_cyc s _ o _),
    sameDevices_of_bus (busWrite_setCyc_bus _ _ _ _) (by simp [advance]) (by simp [advance])⟩

/-- Settles O20: an increment adds 1 and a decrement 255, modulo 256. -/
theorem indexStepsWrapAndSetZN : Obligations.IndexStepsWrapAndSetZN := by
  intro s
  refine ⟨?inx, ?iny, ?dex, ?dey⟩
  case inx => exact exec_register_stepX rfl rfl (toNat_incOp s.x s.p)
  case iny => exact exec_register_stepY rfl rfl (toNat_incOp s.y s.p)
  case dex => exact exec_register_stepX rfl rfl (toNat_decOp s.x s.p)
  case dey => exact exec_register_stepY rfl rfl (toNat_decOp s.y s.p)

end Sys2Proof.Proofs
end

section
/-! PROOFS. AND, ORA and EOR bit by bit (42_logical_shift.md R171 to R173); BIT, which takes N and V from the memory byte
and Z from the and (R174). -/

namespace Sys2Proof.Machine
open Sys2Proof.Spec

/-- A form that writes a byte `v` to A and sets Z and N from it, where `bit` gives each bit of `v` from the bits of A and
the operand. -/
theorem exec_source_bitwise {i : Instr} {s : State} {r : Source} {f : Byte → State → State} {v : Byte}
    {bit : Bool → Bool → Bool} (hr : source s i.operand = some r) (hf : readEffect i.mnemonic = some f)
    (heffect : f r.byte s = aluA (v, setZN v s.p) s)
    (hbits : ∀ k, v.getLsbD k = bit (s.a.getLsbD k) (r.byte.getLsbD k)) :
    ∃ t, exec i s = .next t ∧ (∀ k, t.a.getLsbD k = bit (s.a.getLsbD k) (r.byte.getLsbD k)) ∧ WritesA s r t.a t := by
  obtain ⟨t, he, ⟨rfl, hrest⟩, hflags, hends, hdev⟩ := exec_source_setZN hr hf (congrArg State.regs heffect)
  exact ⟨t, he, hbits, ⟨rfl, hrest⟩, hflags, hends, hdev⟩

/-- Two bytes share no bit where their and is zero. -/
theorem and_eq_zero_iff_bits (a m : Byte) : a &&& m = 0 ↔ ∀ k, (a.getLsbD k && m.getLsbD k) = false := by
  constructor
  · intro h k
    rw [← BitVec.getLsbD_and, h]
    exact BitVec.getLsbD_zero
  · intro h
    apply BitVec.eq_of_getLsbD_eq
    intro k _
    rw [BitVec.getLsbD_and, h k]
    exact BitVec.getLsbD_zero.symm

theorem zero_bitP_iff (a m p : Byte) : zero (bitP a m p) = true ↔ ∀ k, (a.getLsbD k && m.getLsbD k) = false := by
  have hflag : zero (bitP a m p) = (a &&& m == 0) := flag_bitP bitZ a m p
  rw [hflag, beq_iff_eq, and_eq_zero_iff_bits]

end Sys2Proof.Machine

namespace Sys2Proof.Proofs
open Sys2Proof.Machine Sys2Proof.Spec

/-- Settles O21: the three differ in the operation on one bit. -/
theorem logicWorksBitByBit : Obligations.LogicWorksBitByBit := by
  intro i s r hr
  refine ⟨fun hm => ?and, fun hm => ?ora, fun hm => ?eor⟩
  case and => exact exec_source_bitwise hr (congrArg readEffect hm) rfl fun _ => BitVec.getLsbD_and
  case ora => exact exec_source_bitwise hr (congrArg readEffect hm) rfl fun _ => BitVec.getLsbD_or
  case eor => exact exec_source_bitwise hr (congrArg readEffect hm) rfl fun _ => BitVec.getLsbD_xor

/-- Settles O22: BIT leaves every register but P, whose Z, N and V are those of its operation. -/
theorem bitTestsTheMemoryByte : Obligations.BitTestsTheMemoryByte := by
  intro i s r hr hm
  obtain ⟨t, he, ht, hends, hdev⟩ := exec_source_ends hr (congrArg readEffect hm)
  obtain ⟨hregs, hp⟩ := regs_eq_iff.mp ht
  refine ⟨t, he, ?zero, ?negative, ?overflow, ?others, hregs, hends, hdev⟩ <;> rw [hp]
  case zero => exact zero_bitP_iff s.a r.byte s.p
  case negative => exact flag_bitP bitN s.a r.byte s.p
  case overflow => exact flag_bitP bitV s.a r.byte s.p
  case others => exact bitP_onlyFlags s.a r.byte s.p

end Sys2Proof.Proofs
end

section
/-! PROOFS. Jumps, calls, returns and handler entries (44_jumps_calls.md R210 to R216, 60_exceptions.md R346 to R349): what
pushes leave in the stack cells below S and in every other cell, what a return pulls from the cells above S (10_state.md
R22), and the pointer of the indirect jump (20_memory.md R71). -/

namespace Sys2Proof.Machine
open Sys2Proof.Spec

/-! Stack cells -/

theorem stackCell_add (sp : Byte) (k : Nat) : stackCell (sp + BitVec.ofNat 8 k) = above sp k := by
  rw [stackCell, above, BitVec.toNat_add, BitVec.toNat_ofNat, Nat.add_mod_mod]

theorem stackCell_sub (sp : Byte) {k : Nat} (hk : k ≤ 256) : stackCell (sp - BitVec.ofNat 8 k) = below sp k := by
  have hsp : sp.toNat < 256 := sp.isLt
  rw [stackCell, below, BitVec.toNat_sub, BitVec.toNat_ofNat]
  omega

theorem stackCell_eq_below (sp : Byte) : stackCell sp = below sp 0 := by
  rw [← stackCell_sub sp (Nat.zero_le 256), BitVec.sub_zero]

/-- After `n` pushes, the `j`-th byte pulled is the one `n - j` deep. -/
theorem above_sub (sp : Byte) {n j : Nat} (hj : j ≤ n) (hn : n ≤ 256) :
    above (sp - BitVec.ofNat 8 n) j = below sp (n - j) := by
  rw [above, below, BitVec.toNat_sub, BitVec.toNat_ofNat]
  omega

theorem below_inj {sp : Byte} {j k : Nat} (hj : j < 256) (hk : k < 256) : below sp j = below sp k ↔ j = k := by
  unfold below; omega

/-! What pushes leave in work RAM -/

theorem wf_push {s : State} (hs : s.ram.wf 2048 = true) (v : Byte) : (push v s).ram.wf 2048 = true := by
  rw [push_eq]; exact Memory.wf_write hs (stackCell_lt s.sp)

theorem read_push {s : State} (hs : s.ram.wf 2048 = true) (v : Byte) (c : Nat) :
    (push v s).ram.read c = if c = below s.sp 0 then v else s.ram.read c := by
  rw [push_eq, ← stackCell_eq_below]
  simp only [State.setSp_fields, State.setRam_fields, Memory.read_write hs, eq_comm]

theorem push_sp (v : Byte) (s : State) : (push v s).sp = s.sp - 1 := by rw [push_eq]; rfl

theorem read_pushWord {s : State} (hs : s.ram.wf 2048 = true) (w : Word) (c : Nat) :
    (pushWord w s).ram.read c =
      if c = below s.sp 1 then loByte w else if c = below s.sp 0 then hiByte w else s.ram.read c := by
  have hsp : below (s.sp - 1) 0 = below s.sp 1 := by
    rw [← stackCell_eq_below]; exact stackCell_sub s.sp (by decide)
  rw [pushWord, read_push (wf_push hs _), read_push hs, push_sp, hsp]

theorem wf_pushWord {s : State} (hs : s.ram.wf 2048 = true) (w : Word) : (pushWord w s).ram.wf 2048 = true :=
  wf_push (wf_push hs _) _

theorem hiByte_loByte_toNat (w : Word) : 256 * (hiByte w).toNat + (loByte w).toNat = w.toNat := by
  rw [Nat.add_comm, ← word_toNat, word_loByte_hiByte]

/-- The saved address of JSR and BRK, from its two cells. -/
theorem savedPc_toNat {hi lo : Byte} {pc : Word} (hhi : hi = hiByte (pc + 2)) (hlo : lo = loByte (pc + 2)) :
    256 * hi.toNat + lo.toNat = (pc.toNat + 2) % 65536 := by
  rw [hhi, hlo, hiByte_loByte_toNat]; exact BitVec.toNat_add pc 2

/-- The two stack cells of a pushed address; no other RAM cell changes. -/
theorem pushWord_ram {s : State} (hs : s.ram.wf 2048 = true) (w : Word) :
    (pushWord w s).ram.read (below s.sp 0) = hiByte w ∧ (pushWord w s).ram.read (below s.sp 1) = loByte w ∧
    RamExcept [below s.sp 0, below s.sp 1] s (pushWord w s) := by
  have hread := read_pushWord hs w
  refine ⟨by simp [hread, below_inj], by simp [hread], fun c hc => ?others⟩
  obtain ⟨h0, h1⟩ : c ≠ below s.sp 0 ∧ c ≠ below s.sp 1 := by simpa using hc
  rw [hread, if_neg h1, if_neg h0]

/-! The returns, in the cells above S -/

theorem exec_rts (s : State) :
    exec .rts s = .next { s with
      pc := word (s.ram.read (above s.sp 1)) (s.ram.read (above s.sp 2)) + 1
      sp := s.sp + 2
      cyc := 6 } := by
  rw [← stackCell_add, ← stackCell_add]
  change execRts s = _
  rw [execRts, pullWord_eq]; rfl

theorem exec_rti (s : State) :
    exec .rti s = .next { s with
      p := pulledP (s.ram.read (above s.sp 1))
      pc := word (s.ram.read (above s.sp 2)) (s.ram.read (above s.sp 3))
      sp := s.sp + 3
      cyc := 6 } := by
  rw [← stackCell_add, ← stackCell_add, ← stackCell_add]
  change execRti s = _
  rw [execRti, returnFromHandler_eq]; rfl

theorem getLsbD_pulledP {k : Nat} (b : Byte) (h4 : k ≠ 4) (h5 : k ≠ 5) : (pulledP b).getLsbD k = b.getLsbD k := by
  by_cases hk : k < 8
  · simpa [flag, bitB, bitU, h4, h5] using flag_pulledP k b hk
  · rw [BitVec.getLsbD_of_ge _ _ (by omega), BitVec.getLsbD_of_ge _ _ (by omega)]

/-- The image BRK pushes differs from P in bits 5:4 at most, which a pull replaces by P's own (R23). -/
theorem pulledP_pushedByInstr : ∀ p : Byte, statusOk p = true → pulledP (pushedByInstr p) = p := by decide

/-- The same for the image NMI entry pushes. -/
theorem pulledP_pushedByNmi : ∀ p : Byte, statusOk p = true → pulledP (pushedByNmi p) = p := by decide

/-- RTI from a state whose three cells below `sp` a handler entry filled resumes at the saved address. -/
theorem exec_rti_saved {t : State} {sp image : Byte} {ret : Word} (hsp : t.sp = sp - 3)
    (hhi : t.ram.read (below sp 0) = hiByte ret) (hlo : t.ram.read (below sp 1) = loByte ret)
    (himage : t.ram.read (below sp 2) = image) :
    ∃ u, exec .rti t = .next u ∧ u.pc = ret ∧ u.sp = sp ∧ u.p = pulledP image := by
  have h1 : above t.sp 1 = below sp 2 := hsp ▸ above_sub sp (by decide) (by decide)
  have h2 : above t.sp 2 = below sp 1 := hsp ▸ above_sub sp (by decide) (by decide)
  have h3 : above t.sp 3 = below sp 0 := hsp ▸ above_sub sp (by decide) (by decide)
  rw [exec_rti]
  refine ⟨_, rfl, ?pc, ?sp, ?p⟩
  case pc => simp only [h2, h3, hlo, hhi, word_loByte_hiByte]
  case sp => exact hsp ▸ BitVec.sub_add_cancel sp 3
  case p => simp only [h1, himage]

/-! The handler entry -/

section
variable {vector : Word} (h : 0x8000 ≤ vector.toNat) (h' : vector.toNat < 0xFFFF) (ret : Word) (image : Byte)
include h h'

theorem read_enterHandler {s : State} (hs : s.ram.wf 2048 = true) (c : Nat) :
    (enterHandler ret image vector s).ram.read c =
      if c = below s.sp 2 then image
      else if c = below s.sp 1 then loByte ret else if c = below s.sp 0 then hiByte ret else s.ram.read c := by
  have hpushes : (enterHandler ret image vector s).ram = (push image (pushWord ret s)).ram := by
    rw [enterHandler_eq h h', push_eq, pushWord_eq]; rfl
  have hsp : below (pushWord ret s).sp 0 = below s.sp 2 := by
    rw [← stackCell_eq_below, pushWord_eq]; exact stackCell_sub s.sp (by decide)
  rw [hpushes, read_push (wf_pushWord hs ret), read_pushWord hs, hsp]

/-- The three stack cells of a handler entry; no other RAM cell changes. -/
theorem enterHandler_ram {s : State} (hs : s.ram.wf 2048 = true) :
    (enterHandler ret image vector s).ram.read (below s.sp 0) = hiByte ret ∧
    (enterHandler ret image vector s).ram.read (below s.sp 1) = loByte ret ∧
    (enterHandler ret image vector s).ram.read (below s.sp 2) = image ∧
    RamExcept [below s.sp 0, below s.sp 1, below s.sp 2] s (enterHandler ret image vector s) := by
  have hread := read_enterHandler h h' ret image hs
  refine ⟨by simp [hread, below_inj], by simp [hread, below_inj], by simp [hread], fun c hc => ?others⟩
  obtain ⟨h0, h1, h2⟩ : c ≠ below s.sp 0 ∧ c ≠ below s.sp 1 ∧ c ≠ below s.sp 2 := by simpa using hc
  rw [hread, if_neg h2, if_neg h1, if_neg h0]

/-- What a handler entry leaves outside work RAM: I set, PC the word at the vector, S down by 3. -/
theorem enterHandler_registers (s : State) :
    interruptDisable (enterHandler ret image vector s).p = true ∧
    OnlyFlags [2] s.p (enterHandler ret image vector s).p ∧
    (enterHandler ret image vector s).pc = word (peek vector s) (peek (vector + 1) s) ∧
    (enterHandler ret image vector s).cyc = s.cyc ∧
    Regs (enterHandler ret image vector s) s.a s.x s.y (s.sp - 3) ∧
    SameButRam s (enterHandler ret image vector s) := by
  have hnext : 0x8000 ≤ (vector + 1).toNat := by rw [BitVec.toNat_add]; simp; omega
  rw [enterHandler_eq h h', peek_prg h, peek_prg hnext]
  exact ⟨flag_setFlag bitI bitI true s.p (by decide), setFlag_onlyFlags (by decide) true s.p, rfl, rfl,
    ⟨rfl, rfl, rfl, rfl⟩, rfl, rfl, rfl, rfl, rfl, rfl, rfl⟩

/-- RTI after a handler entry undoes it, where the saved image is pulled as P. -/
theorem exec_rti_enterHandler {s : State} (hs : s.ram.wf 2048 = true) (himage : pulledP image = s.p) :
    ∃ u, exec .rti (enterHandler ret image vector s) = .next u ∧ u.pc = ret ∧ u.sp = s.sp ∧ u.p = s.p := by
  obtain ⟨hhi, hlo, hcell, -⟩ := enterHandler_ram h h' ret image hs
  obtain ⟨-, -, -, -, ⟨-, -, -, hsp⟩, -⟩ := enterHandler_registers h h' ret image s
  exact himage ▸ exec_rti_saved hsp hhi hlo hcell

end

/-! The indirect jump's pointer -/

/-- The pointer's second byte lies in the page of its first (20_memory.md R71). -/
theorem nextInPage_eq (w : Word) :
    (w &&& 0xFF00) ||| zext16 (loByte w + 1) = BitVec.ofNat 16 (w.toNat / 256 * 256 + (w.toNat + 1) % 256) := by
  have hlow : (loByte w + 1).toNat = (w.toNat + 1) % 256 := by
    have := hiByte_loByte_toNat w
    rw [BitVec.toNat_add]; simp; omega
  apply BitVec.eq_of_toNat_eq
  rw [BitVec.toNat_or, and_page_toNat, zext16_toNat, hlow, BitVec.toNat_ofNat, Nat.mul_comm,
    ← Nat.two_pow_add_eq_or_of_lt (i := 8) (Nat.mod_lt _ (by decide))]
  have := w.isLt
  omega

end Sys2Proof.Machine

namespace Sys2Proof.Proofs
open Sys2Proof.Machine Sys2Proof.Spec

/-- Settles O24: the two reads of the indirect form are those of the pointer and of its next byte in the page. -/
theorem jumpsSetThePc : Obligations.JumpsSetThePc := by
  intro w s
  refine ⟨?absolute, ?indirect⟩
  case absolute => exact ⟨_, rfl, rfl, rfl, ⟨rfl, rfl, rfl, rfl⟩, rfl, sameDevices_of_bus rfl rfl rfl⟩
  case indirect =>
    rw [← nextInPage_eq]
    exact ⟨_, rfl, rfl, rfl, by simp [Regs, memRead16bug, readPair], by simp [memRead16bug, readPair],
      sameDevices_of_bus rfl rfl rfl⟩

/-- Settles O25: JSR pushes one word. -/
theorem jsrSavesTheAddressOfItsLastByte : Obligations.JsrSavesTheAddressOfItsLastByte := by
  intro w s hs
  obtain ⟨hhi, hlo, hothers⟩ := pushWord_ram (s := s.setCyc 6) hs (s.pc + 2)
  refine ⟨_, rfl, savedPc_toNat hhi hlo, hothers, rfl, ?rest⟩
  rw [pushWord_eq]
  exact ⟨rfl, ⟨rfl, rfl, rfl, rfl⟩, rfl, rfl, rfl, rfl, rfl, rfl, rfl, rfl⟩

/-- Settles O26: RTS pulls one word. -/
theorem rtsReturnsPastThePulledAddress : Obligations.RtsReturnsPastThePulledAddress := by
  intro s
  refine ⟨_, exec_rts s, ?pc, rfl, ⟨rfl, rfl, rfl, rfl⟩, rfl, sameDevices_of_bus rfl rfl rfl⟩
  rw [BitVec.toNat_add, word_toNat]; rfl

/-- Settles O27: BRK enters the handler of the vector at 0xFFFE. -/
theorem brkEntersItsHandler : Obligations.BrkEntersItsHandler := by
  intro s hs
  have hlow : 0x8000 ≤ Config.vecBrk.toNat := by decide
  have hhigh : Config.vecBrk.toNat < 0xFFFF := by decide
  obtain ⟨hhi, hlo, himage, hothers⟩ :=
    enterHandler_ram hlow hhigh (s.pc + 2) (pushedByInstr s.p) (s := s.setCyc 7) hs
  exact ⟨_, rfl, savedPc_toNat hhi hlo, himage, hothers,
    enterHandler_registers hlow hhigh (s.pc + 2) (pushedByInstr s.p) (s.setCyc 7)⟩

/-- Settles O28: bits 5:4 of the pulled byte are replaced, the others kept. -/
theorem rtiRestoresStatusAndPc : Obligations.RtiRestoresStatusAndPc := by
  intro s
  exact ⟨_, exec_rti s, fun _ => getLsbD_pulledP _, flag_pulledP bitB _ (by decide), flag_pulledP bitU _ (by decide),
    word_toNat _ _, rfl, ⟨rfl, rfl, rfl, rfl⟩, sameDevices_of_bus rfl rfl rfl⟩

/-- Settles O29: each entry leaves its bytes below S where its return pulls them. -/
theorem returnsUndoTheirEntries : Obligations.ReturnsUndoTheirEntries := by
  intro s hs hp
  refine ⟨fun w t ht => ?jsr, fun t ht => ?brk, ?nmi⟩
  case jsr =>
    obtain ⟨t', ht', hsaved, -, -, -, ⟨-, -, -, hsp⟩, htp, -⟩ := jsrSavesTheAddressOfItsLastByte w s hs
    cases ht.symm.trans ht'
    obtain ⟨u, hu, hpc, -, ⟨-, -, -, husp⟩, hup, -⟩ := rtsReturnsPastThePulledAddress t
    have h1 : above t.sp 1 = below s.sp 1 := hsp ▸ above_sub s.sp (by decide) (by decide)
    have h2 : above t.sp 2 = below s.sp 0 := hsp ▸ above_sub s.sp (by decide) (by decide)
    rw [h1, h2] at hpc
    exact ⟨u, hu, by omega, husp.trans (hsp ▸ BitVec.sub_add_cancel s.sp 2), hup.trans htp⟩
  case brk =>
    cases ht
    obtain ⟨u, hu, hpc, hrest⟩ := exec_rti_enterHandler (vector := Config.vecBrk) (by decide) (by decide) (s.pc + 2)
      (pushedByInstr s.p) (s := s.setCyc 7) hs (pulledP_pushedByInstr s.p hp)
    exact ⟨u, hu, hpc ▸ BitVec.toNat_add s.pc 2, hrest⟩
  case nmi =>
    exact exec_rti_enterHandler (vector := Config.vecNmi) (by decide) (by decide) s.pc (pushedByNmi s.p)
      (s := (s.setNmiPending false).setCyc Config.nmiCycles) hs (pulledP_pushedByNmi s.p hp)

end Sys2Proof.Proofs
end

section
/-! PROOFS. The stack and flag instructions and NOP (45_stack_flags_nop.md R221 to R232): how a one-byte form that pushes
or pulls one byte ends, and the one flag each flag instruction writes. -/

namespace Sys2Proof.Machine
open Sys2Proof.Spec

/-! Pushing one byte -/

theorem pushedByte_setCyc {m : Mnemonic} {v : State → Byte} (h : pushedByte m = some v) (n : Nat) (s : State) :
    v (s.setCyc n) = v s := by
  unfold pushedByte at h; split at h <;> cases h <;> rfl

/-- One push writes the cell at S and no other RAM cell. -/
theorem push_ram {s : State} (hs : s.ram.wf 2048 = true) (v : Byte) :
    (push v s).ram.read (below s.sp 0) = v ∧ RamExcept [below s.sp 0] s (push v s) := by
  have hread := read_push hs v
  refine ⟨by simp [hread], fun c hc => ?others⟩
  rw [hread, if_neg (by simpa using hc)]

/-- How a push instruction ends: its byte in the cell at S, S down by 1, nothing else changed, in 3 cycles. -/
theorem exec_push_ends {i : Instr} {s : State} {v : State → Byte} (hs : s.ram.wf 2048 = true)
    (hv : pushedByte i.mnemonic = some v) :
    ∃ t, exec i s = .next t ∧ t.ram.read (below s.sp 0) = v s ∧ RamExcept [below s.sp 0] s t ∧
      Regs t s.a s.x s.y (s.sp - 1) ∧ t.p = s.p ∧ Ends s t 1 3 ∧ SameButRam s t := by
  obtain ⟨hcell, hothers⟩ := push_ram (s := s.setCyc 3) hs (v s)
  rw [exec_push hv, implied, pushedByte_setCyc hv]
  refine ⟨_, rfl, hcell, hothers, ?rest⟩
  rw [push_eq]
  exact ⟨⟨rfl, rfl, rfl, rfl⟩, rfl, ends_advance 1 rfl rfl, rfl, rfl, rfl, rfl, rfl, rfl, rfl⟩

/-! Pulling one byte -/

theorem pulledEffect_latches {m : Mnemonic} {f : Byte → State → State} (h : pulledEffect m = some f) (b : Byte)
    (s : State) : (f b s).latches = s.latches := by
  unfold pulledEffect at h; split at h <;> cases h <;> rfl

theorem pulledEffect_setCyc_regs {m : Mnemonic} {f : Byte → State → State} (h : pulledEffect m = some f) (b : Byte)
    (n : Nat) (s : State) : (f b (s.setCyc n)).regs = (f b s).regs := by
  unfold pulledEffect at h; split at h <;> cases h <;> rfl

/-- How a pull instruction ends: S up by 1 and then the registers as its effect on the byte at the new S leaves them,
nothing else changed, in 4 cycles. -/
theorem exec_pull_ends {i : Instr} {f : Byte → State → State} (hf : pulledEffect i.mnemonic = some f) (s : State) :
    ∃ t, exec i s = .next t ∧ t.regs = (f (s.ram.read (above s.sp 1)) (s.setSp (s.sp + 1))).regs ∧
      EndsImplied s t 4 := by
  have hpull : pull (s.setCyc 4) = (s.ram.read (above s.sp 1), (s.setSp (s.sp + 1)).setCyc 4) := by
    rw [pull_eq, ← stackCell_add]; rfl
  obtain ⟨hpc, hnmi, hfault⟩ := latches_eq_iff.mp
    (pulledEffect_latches hf (s.ram.read (above s.sp 1)) ((s.setSp (s.sp + 1)).setCyc 4))
  rw [exec_pull hf, implied, hpull]
  exact ⟨_, rfl, pulledEffect_setCyc_regs hf _ 4 _, ends_advance 1 hpc (pulledEffect_cyc hf _ _),
    sameDevices_of_bus (pulledEffect_bus hf _ _) hnmi hfault⟩

/-! Writing one flag -/

/-- The effect of a flag instruction is to set the one flag the rules name to their value. -/
theorem registerEffect_of_flagWrite {m : Mnemonic} {k : Nat} {b : Bool} (h : flagWrite m = some (k, b)) :
    k < 8 ∧ registerEffect m = some fun s => s.setP (setFlag k b s.p) := by
  unfold flagWrite at h; split at h <;> cases h <;> exact ⟨by decide, rfl⟩

end Sys2Proof.Machine

namespace Sys2Proof.Proofs
open Sys2Proof.Machine Sys2Proof.Spec

/-- Settles O30: PHA and PHP differ in the byte pushed, PLA and PLP in what they do with the byte pulled. -/
theorem stackInstructionsMoveOneByte : Obligations.StackInstructionsMoveOneByte := by
  intro s hs
  refine ⟨?pha, ?php, ?pla, ?plp⟩
  case pha => exact exec_push_ends (i := .pha) hs rfl
  case php => exact exec_push_ends (i := .php) hs rfl
  case pla =>
    obtain ⟨t, he, ht, hends⟩ := exec_pull_ends (i := .pla) rfl s
    obtain ⟨hregs, hp⟩ := regs_eq_iff.mp ht
    exact ⟨t, he, hregs, hp ▸ setZN_followsByte _ _, hends⟩
  case plp =>
    obtain ⟨t, he, ht, hends⟩ := exec_pull_ends (i := .plp) rfl s
    obtain ⟨hregs, hp⟩ := regs_eq_iff.mp ht
    refine ⟨t, he, hregs, ?kept, ?bit4, ?bit5, hends⟩ <;> rw [hp]
    case kept => exact fun _ => getLsbD_pulledP _
    case bit4 => exact flag_pulledP bitB _ (by decide)
    case bit5 => exact flag_pulledP bitU _ (by decide)

/-- Settles O31: a flag instruction's effect is one `setFlag`, NOP's effect is none. -/
theorem flagInstructionsWriteOneFlag : Obligations.FlagInstructionsWriteOneFlag := by
  refine ⟨fun i s k b h => ?flags, fun s => ?nop⟩
  case flags =>
    obtain ⟨hk, hf⟩ := registerEffect_of_flagWrite h
    obtain ⟨t, he, ht, hends⟩ := exec_register_ends hf s
    obtain ⟨hregs, hp⟩ := regs_eq_iff.mp ht
    refine ⟨t, he, ?value, ?others, hregs, hends⟩ <;> rw [hp]
    case value => exact (flag_setFlag k k b s.p hk).trans (if_pos rfl)
    case others => exact setFlag_onlyFlags hk b s.p
  case nop =>
    obtain ⟨t, he, ht, hends⟩ := exec_register_ends (i := .nop) rfl s
    obtain ⟨hregs, hp⟩ := regs_eq_iff.mp ht
    exact ⟨t, he, hp, hregs, hends⟩

end Sys2Proof.Proofs
end

section
/-! PROOFS. Bit fields in the statements' arithmetic (00_scope.md R6): the number a field is, and the number left once a
field is put. -/

namespace Sys2Proof.Machine

theorem toNat_field {n : Nat} (x : BitVec n) (lo len : Nat) :
    (field x lo len).toNat = x.toNat / 2 ^ lo % 2 ^ len := by
  rw [field, BitVec.extractLsb'_toNat, Nat.shiftRight_eq_div_pow]

/-- What a put field leaves, part by part: the bits above it, the field, the bits below it. -/
theorem toNat_putField {n len lo : Nat} (x : BitVec n) (v : BitVec len) (h : lo + len ≤ n) :
    (putField x lo v).toNat =
      2 ^ lo * (2 ^ len * (x.toNat / 2 ^ (lo + len)) + v.toNat) + x.toNat % 2 ^ lo := by
  refine Nat.eq_of_testBit_eq fun i => ?_
  rw [BitVec.testBit_toNat, getLsbD_putField, Nat.testBit_two_pow_mul_add _ (Nat.mod_lt _ (Nat.two_pow_pos _)),
    Nat.testBit_two_pow_mul_add _ v.isLt, Nat.testBit_mod_two_pow, Nat.testBit_div_two_pow]
  by_cases below : i < lo
  · simp [below, show ¬ lo ≤ i by omega, BitVec.testBit_toNat]
  by_cases inside : i < lo + len
  · simp [below, inside, show lo ≤ i by omega, show i < n by omega, show i - lo < len by omega, BitVec.testBit_toNat]
  · simp [below, inside, show ¬ i - lo < len by omega, show i - lo - len + (lo + len) = i by omega,
      BitVec.testBit_toNat]

end Sys2Proof.Machine
end

section
/-! PROOFS. The PPU's ports (46_ppu_registers.md R240 to R257): the bits of the status byte, port 7's read, and the fields
of `t` the two-write protocols put. -/

namespace Sys2Proof.Machine
open Sys2Proof.Spec

/-! Reads -/

/-- The status byte (R245): the three flags over the low five bits of the I/O latch. -/
theorem getLsbD_statusByte (p : Ppu) :
    p.statusByte.getLsbD 7 = p.vblank ∧ p.statusByte.getLsbD 6 = p.spr0Hit ∧
      p.statusByte.getLsbD 5 = p.sprOverflow ∧
      ∀ k, k < 5 → p.statusByte.getLsbD k = p.ioLatch.getLsbD k := by
  have byte (k : Nat) : p.statusByte.getLsbD k =
      (bit1 p.vblank ++ bit1 p.spr0Hit ++ bit1 p.sprOverflow ++ field p.ioLatch 0 5 : BitVec (1 + 1 + 1 + 5)).getLsbD k :=
    rfl
  simp only [byte, BitVec.getLsbD_append, getLsbD_field]
  exact ⟨by simp [bit1], by simp [bit1], by simp [bit1], fun k hk => by simp [hk]⟩

theorem vramAddr_toNat (p : Ppu) : p.vramAddr.toNat = p.v.toNat % 16384 := BitVec.toNat_setWidth _ _

theorem dataByte_eq (c : Cartridge) (p : Ppu) :
    p.dataByte c =
      if p.v.toNat % 16384 < 0x3F00 then p.readBuffer else ppuByte c p (p.v.toNat % 16384) := by
  simp only [Ppu.dataByte, le_nametableEnd, ppuRead_eq, vramAddr_toNat]

/-- The refill (R256): over the palette it is the nametable byte 0x1000 below, and that subtraction does not wrap. -/
theorem dataRefill_eq (c : Cartridge) (p : Ppu) :
    p.dataRefill c =
      if p.v.toNat % 16384 < 0x3F00 then ppuByte c p (p.v.toNat % 16384)
      else ppuByte c p (p.v.toNat % 16384 - 0x1000) := by
  simp only [Ppu.dataRefill, le_nametableEnd, ppuRead_eq, vramAddr_toNat]
  split
  case isTrue => rfl
  case isFalse h =>
    have below : (p.vramAddr - 0x1000).toNat = p.vramAddr.toNat - 0x1000 :=
      BitVec.toNat_sub_of_le (BitVec.le_def.mpr (by rw [vramAddr_toNat]; exact le_trans (by decide) (not_lt.mp h)))
    rw [below, vramAddr_toNat]

/-! Writes -/

/-- Port 0 puts both nametable bits (R241). -/
theorem scroll_putNametable (t : BitVec 15) (v : Byte) :
    scroll (putField t 10 (field v 0 2)) = { scroll t with ntX := v.toNat % 2, ntY := v.toNat / 2 % 2 } := by
  simp only [scroll, toNat_putField t (field v 0 2) (lo := 10) (by decide), toNat_field, Scroll.mk.injEq]
  omega

/-- Port 5's first write puts the coarse X (R251). -/
theorem scroll_putCoarseX (t : BitVec 15) (v : Byte) :
    scroll (putField t 0 (field v 3 5)) = { scroll t with coarseX := v.toNat / 8 } := by
  simp only [scroll, toNat_putField t (field v 3 5) (lo := 0) (by decide), toNat_field, Scroll.mk.injEq]
  omega

/-- Port 5's first write sets the fine X (R251). -/
theorem fineX_eq (v : Byte) : field v 0 3 = BitVec.ofNat 3 (v.toNat % 8) := by
  apply BitVec.eq_of_toNat_eq
  rw [toNat_field, BitVec.toNat_ofNat]
  omega

theorem scroll_putFineY (t : BitVec 15) (v : Byte) :
    scroll (putField t 12 (field v 0 3)) = { scroll t with fineY := v.toNat % 8 } := by
  simp only [scroll, toNat_putField t (field v 0 3) (lo := 12) (by decide), toNat_field, Scroll.mk.injEq]
  omega

theorem scroll_putCoarseY (t : BitVec 15) (v : Byte) :
    scroll (putField t 5 (field v 3 5)) = { scroll t with coarseY := v.toNat / 8 } := by
  simp only [scroll, toNat_putField t (field v 3 5) (lo := 5) (by decide), toNat_field, Scroll.mk.injEq]
  omega

/-- Port 5's second write puts the fine Y and the coarse Y (R251). -/
theorem scroll_putY (t : BitVec 15) (v : Byte) :
    scroll (putField (putField t 12 (field v 0 3)) 5 (field v 3 5)) =
      { scroll t with fineY := v.toNat % 8, coarseY := v.toNat / 8 } := by
  rw [scroll_putCoarseY, scroll_putFineY]

/-- Port 6's first write puts bits 13:8 and clears bit 14 (R253). -/
theorem putHighHalf_eq (t : BitVec 15) (v : Byte) :
    putField (putField t 8 (field v 0 6)) 14 (0 : BitVec 1) =
      BitVec.ofNat 15 (v.toNat % 64 * 256 + t.toNat % 256) := by
  apply BitVec.eq_of_toNat_eq
  have high := toNat_putField t (field v 0 6) (lo := 8) (by decide)
  rw [toNat_field] at high
  rw [toNat_putField _ _ (by decide), show (0 : BitVec 1).toNat = 0 from rfl, BitVec.toNat_ofNat]
  omega

/-- Port 6's second write puts the low half (R253). -/
theorem putLowHalf_eq (t : BitVec 15) (v : Byte) :
    putField t 0 v = BitVec.ofNat 15 (t.toNat / 256 * 256 + v.toNat) := by
  apply BitVec.eq_of_toNat_eq
  rw [toNat_putField t v (lo := 0) (by decide), BitVec.toNat_ofNat]
  omega

end Sys2Proof.Machine

namespace Sys2Proof.Proofs
open Sys2Proof.Machine Sys2Proof.Spec

/-- Settles O42: each port's read is its own definition; the status byte bit by bit, and port 7 by its two bytes. -/
theorem portReadsFollowTheirRules : Obligations.PortReadsFollowTheirRules := by
  intro c p
  refine ⟨fun k hk => ?latch, ?status, rfl, ?data⟩
  case latch =>
    simp only [List.mem_cons, List.not_mem_nil, or_false] at hk
    rcases hk with rfl | rfl | rfl | rfl | rfl <;> rfl
  case status =>
    obtain ⟨hvblank, hhit, hoverflow, hlatch⟩ := getLsbD_statusByte p
    exact ⟨p.statusByte, hvblank, hhit, hoverflow, hlatch, rfl⟩
  case data =>
    change p.readData c = _
    simp only [Ppu.readData, vramIncrement_eq, dataByte_eq, dataRefill_eq]

/-- Settles O43: each port's write is its own definition, on the side of the toggle it is on; `t` by the fields put. -/
theorem portWritesFollowTheirRules : Obligations.PortWritesFollowTheirRules := by
  intro v s
  have port5 : portWrite 5 v s = s.setPpu (Ppu.writeScroll v { s.ppu with ioLatch := v }) := rfl
  have port6 : portWrite 6 v s = s.setPpu (Ppu.writeAddr v { s.ppu with ioLatch := v }) := rfl
  refine ⟨⟨_, scroll_putNametable s.ppu.t v, rfl⟩, rfl, rfl, rfl, rfl, fun hw => ⟨_, scroll_putCoarseX s.ppu.t v, ?x⟩,
    fun hw => ⟨_, scroll_putY s.ppu.t v, ?y⟩, fun hw => ?high, fun hw => ?low⟩
  case x => rw [port5, Ppu.writeScroll, if_neg (by simp [hw]), fineX_eq]; rfl
  case y => rw [port5, Ppu.writeScroll, if_pos hw]; rfl
  case high => rw [port6, Ppu.writeAddr, if_neg (by simp [hw]), putHighHalf_eq]; rfl
  case low => rw [port6, Ppu.writeAddr, if_pos hw, putLowHalf_eq]; rfl

end Sys2Proof.Proofs
end

section
/-! PROOFS. The raster as one counter (47_ppu_pipeline.md R270, R272): the dots passed since line 0 of frame 0, which
every dot raises by one. -/

namespace Sys2Proof.Machine

/-- The dots from line 0 dot 0 of frame 0 to the raster position. -/
def Ppu.dotsPassed (p : Ppu) : Nat := 89342 * p.frame + 341 * p.scanline + p.dot

theorem tick_dotsPassed {p : Ppu} (h : p.rasterOk) (c : Cartridge) : (p.tick c).dotsPassed = p.dotsPassed + 1 := by
  obtain ⟨hline, hdot⟩ := h
  have moves := tick_raster c p
  simp only [Ppu.raster] at moves
  unfold Ppu.dotsPassed
  split_ifs at moves <;> simp only [Prod.mk.injEq] at moves <;> omega

theorem ticks_dotsPassed {p : Ppu} (h : p.rasterOk) (c : Cartridge) (n : Nat) :
    (Ppu.ticks c n p).dotsPassed = p.dotsPassed + n := by
  induction n generalizing p with
  | zero => rfl
  | succ n ih => rw [Ppu.ticks, ih (rasterOk_tick h c), tick_dotsPassed h]; omega

end Sys2Proof.Machine

namespace Sys2Proof.Proofs
open Sys2Proof.Machine

/-- Settles O46: one dot by the counters' cases; over a frame's dots, in-range counters are determined by the dots
passed. -/
theorem rasterRepeatsEveryFrame : Obligations.RasterRepeatsEveryFrame := by
  refine ⟨fun c p h => ?dot, fun c p h => ?frame⟩
  case dot =>
    have moves := tick_raster c p
    simp only [Ppu.raster] at moves
    dsimp only
    rw [moves]
    refine ⟨fun hd => ?_, fun hd hs => ?_, fun hd hs => ?_⟩
    · rw [if_neg (by omega)]
    · rw [if_pos (by omega), if_neg (by omega)]
    · rw [if_pos (by omega), if_pos (by omega)]
  case frame =>
    have passed := ticks_dotsPassed h c 89342
    obtain ⟨hline', hdot'⟩ := rasterOk_ticks h c 89342
    obtain ⟨hline, hdot⟩ := h
    generalize Ppu.ticks c 89342 p = q at passed hline' hdot' ⊢
    simp only [Ppu.dotsPassed] at passed
    simp only [Prod.mk.injEq]
    omega

/-- Settles O47: the dots passed are one higher with each dot, and at line 241 dot 1 of every frame they leave 82182
modulo the frame's 89342; of 89342 dots in a row one does. -/
theorem everyFrameHasOneVBlankDot : Obligations.EveryFrameHasOneVBlankDot := by
  intro c p h
  have position (n : Nat) : (Ppu.ticks c n p).scanline = 241 ∧ (Ppu.ticks c n p).dot = 1 ↔
      (p.dotsPassed + n) % 89342 = 82182 := by
    obtain ⟨hline, hdot⟩ := rasterOk_ticks h c n
    rw [← ticks_dotsPassed h c n, Ppu.dotsPassed]
    omega
  obtain ⟨k, hk, at241⟩ : ∃ k, k < 89342 ∧ (p.dotsPassed + k) % 89342 = 82182 :=
    ⟨(89342 - p.dotsPassed % 89342 + 82182) % 89342, by omega, by omega⟩
  refine ⟨k, hk, ((position k).mpr at241).1, ((position k).mpr at241).2, fun j hj hs hd => ?_⟩
  have := (position j).mp ⟨hs, hd⟩
  omega

end Sys2Proof.Proofs
end

section
/-! PROOFS. What each sub-step of a dot can change (47_ppu_pipeline.md R271): the PPU with the fields blanked that the
sub-step owns is the same before and after, so that every other field is. -/

namespace Sys2Proof.Machine

/-- `p` without what the background pipeline writes: `v`, the tile latches, the shifters. -/
def Ppu.blankBackground (p : Ppu) : Ppu :=
  { p with
    v := 0, ntByte := 0, atBits := 0, patLo := 0, patHi := 0, bgShLo := 0, bgShHi := 0, atShLo := 0, atShHi := 0 }

/-- `p` without the sprites' pattern rows, palette and priority bits, and X. -/
def Ppu.blankRows (p : Ppu) : Ppu := { p with sprLo := [], sprHi := [], sprAttr := [], sprX := [] }

/-- `p` without what the sprite pipeline writes: the rows, the secondary OAM, the overflow flag. -/
def Ppu.blankSprites (p : Ppu) : Ppu :=
  { p.blankRows with secCount := 0, sec := [], spr0OnLine := false, sprOverflow := false }

/-- `p` without what a pixel writes: the frame buffer and the sprite-0 hit. -/
def Ppu.blankPixel (p : Ppu) : Ppu := { p with fb := [], spr0Hit := false }

/-- `p` without what the entry of VBlank and the counters' advance write. -/
def Ppu.blankSignals (p : Ppu) : Ppu :=
  { p with vblank := false, frameComplete := false, nmiOut := false, scanline := 0, dot := 0, frame := 0 }

/-- What does not depend on the blanked fields is the same before and after. -/
theorem eq_of_blank {α : Type} {blank : Ppu → Ppu} {q p : Ppu} (h : blank q = blank p) (f : Ppu → α)
    (hf : ∀ r, f (blank r) = f r := by intro; rfl) : f q = f p := by
  rw [← hf q, h, hf p]

/-! The sub-steps -/

theorem clearStep_blank (s d : Nat) (p : Ppu) : (p.clearStep s d).clearStatusFlags = p.clearStatusFlags := by
  unfold Ppu.clearStep; split <;> rfl

theorem clearStep_eq_self {s d : Nat} {p : Ppu} (h : ¬ (s = 261 ∧ d = 1)) : p.clearStep s d = p := if_neg h

theorem fetchSlot_blank (c : Cartridge) (d : Nat) (p : Ppu) :
    (p.fetchSlot c d).blankBackground = p.blankBackground := by
  unfold Ppu.fetchSlot; split <;> rfl

theorem backgroundDot_blank (c : Cartridge) (s d : Nat) (p : Ppu) :
    (p.backgroundDot c s d).blankBackground = p.blankBackground := by
  have setV : ∀ v (q : Ppu), (q.setV v).blankBackground = q.blankBackground := fun _ _ => rfl
  have shift : ∀ q : Ppu, q.shiftBg.blankBackground = q.blankBackground := fun _ => rfl
  have reload : ∀ q : Ppu, q.reloadBg.blankBackground = q.blankBackground := fun _ => rfl
  simp only [Ppu.backgroundDot, Ppu.copyVertStep, Ppu.copyHorizStep, Ppu.incYStep, Ppu.fetchStep, Ppu.reloadStep,
    Ppu.shiftStep, apply_ite Ppu.blankBackground, setV, shift, reload, fetchSlot_blank, ite_self]

theorem backgroundStep_blank (c : Cartridge) (s d : Nat) (p : Ppu) :
    (p.backgroundStep c s d).blankBackground = p.blankBackground := by
  unfold Ppu.backgroundStep
  split
  · exact backgroundDot_blank c s d p
  · rfl

theorem fetchSprites_blank (c : Cartridge) (s k i : Nat) (p : Ppu) :
    (Ppu.fetchSprites c s k i p).blankRows = p.blankRows := by
  induction k generalizing i p with
  | zero => rfl
  | succ k ih => exact ih (i + 1) (p.fetchSprite c s i)

theorem spriteLineSetup_blank (c : Cartridge) (s : Nat) (p : Ppu) :
    (p.spriteLineSetup c s).blankSprites = p.blankSprites := by
  unfold Ppu.spriteLineSetup
  split_ifs
  · exact eq_of_blank (fetchSprites_blank c s _ 0 (p.evaluateSprites s)) Ppu.blankSprites
  · rfl
  · rfl

theorem spriteStep_blank (c : Cartridge) (s d : Nat) (p : Ppu) :
    (p.spriteStep c s d).blankSprites = p.blankSprites := by
  unfold Ppu.spriteStep
  split
  · exact spriteLineSetup_blank c s p
  · rfl

theorem outputStep_blank (s d : Nat) (p : Ppu) : (p.outputStep s d).blankPixel = p.blankPixel := by
  unfold Ppu.outputStep; split <;> rfl

theorem vblankStep_blank (s d : Nat) (p : Ppu) : (p.vblankStep s d).blankSignals = p.blankSignals := by
  unfold Ppu.vblankStep; split <;> rfl

theorem advanceCounters_blank (p : Ppu) : p.advanceCounters.setRaster 0 0 0 = p.setRaster 0 0 0 := by
  unfold Ppu.advanceCounters; split_ifs <;> rfl

/-! The dot, cut after its sub-steps -/

/-- The PPU after the background's part of the dot. -/
def Ppu.afterBackground (c : Cartridge) (p : Ppu) : Ppu :=
  (p.clearStep p.scanline p.dot).backgroundStep c p.scanline p.dot

/-- The PPU after the sprites' part of the dot. -/
def Ppu.afterSprites (c : Cartridge) (p : Ppu) : Ppu := (p.afterBackground c).spriteStep c p.scanline p.dot

/-- The PPU after the dot's pixel. -/
def Ppu.afterPixel (c : Cartridge) (p : Ppu) : Ppu := (p.afterSprites c).outputStep p.scanline p.dot

theorem tick_eq (c : Cartridge) (p : Ppu) :
    p.tick c = ((p.afterPixel c).vblankStep p.scanline p.dot).advanceCounters := rfl

/-- A field that neither VBlank nor the counters write is as the pixel leaves it. -/
theorem tick_blank (c : Cartridge) (p : Ppu) : (p.tick c).blankSignals = (p.afterPixel c).blankSignals :=
  (eq_of_blank (advanceCounters_blank _) Ppu.blankSignals).trans (vblankStep_blank _ _ _)

/-- The tile latches: tile number, palette bits, the two pattern bytes (R279 to R281). -/
abbrev Latches := Byte × BitVec 2 × Byte × Byte

def Ppu.latches (p : Ppu) : Latches := (p.ntByte, p.atBits, p.patLo, p.patHi)

/-- The background shifters (R286). -/
def Ppu.shifters (p : Ppu) : BitVec 16 × BitVec 16 × BitVec 16 × BitVec 16 := (p.bgShLo, p.bgShHi, p.atShLo, p.atShHi)

/-- What the background pipeline writes, as `Ppu.blankBackground` lists it. -/
def Ppu.background (p : Ppu) : BitVec 15 × Latches × BitVec 16 × BitVec 16 × BitVec 16 × BitVec 16 :=
  (p.v, p.latches, p.shifters)

theorem clearStep_background (s d : Nat) (p : Ppu) : (p.clearStep s d).background = p.background :=
  eq_of_blank (clearStep_blank s d p) Ppu.background

theorem tick_background (c : Cartridge) (p : Ppu) : (p.tick c).background = (p.afterBackground c).background :=
  calc (p.tick c).background
    _ = (p.afterPixel c).background := eq_of_blank (tick_blank c p) Ppu.background
    _ = (p.afterSprites c).background := eq_of_blank (outputStep_blank _ _ (p.afterSprites c)) Ppu.background
    _ = (p.afterBackground c).background := eq_of_blank (spriteStep_blank c _ _ (p.afterBackground c)) Ppu.background

theorem afterPixel_same (c : Cartridge) (p : Ppu) : (p.afterPixel c).SameOutside p :=
  (outputStep_same _ _ _).trans ((spriteStep_same c _ _ _).trans ((backgroundStep_same c _ _ _).trans
    (clearStep_same _ _ p)))

/-- At a visible dot the pixel sees the PPU as the background's part leaves it. -/
theorem afterSprites_visible {c : Cartridge} {p : Ppu} (hs : p.scanline < 240) (hd : p.dot ≤ 256) :
    p.afterSprites c = p.backgroundStep c p.scanline p.dot := by
  rw [Ppu.afterSprites, Ppu.afterBackground, Ppu.spriteStep, clearStep_eq_self (by omega),
    if_neg (show ¬ p.dot = 257 by omega)]

end Sys2Proof.Machine
end

section
/-! PROOFS. The status flags and output signals under a dot (47_ppu_pipeline.md R273, R289, R297, R300). -/

namespace Sys2Proof.Machine

/-- The fields the entry of VBlank writes. -/
def Ppu.signals (p : Ppu) : Bool × Bool × Bool := (p.vblank, p.frameComplete, p.nmiOut)

theorem afterPixel_signals (c : Cartridge) (p : Ppu) :
    (p.afterPixel c).signals = (p.clearStep p.scanline p.dot).signals :=
  calc (p.afterPixel c).signals
    _ = (p.afterSprites c).signals := eq_of_blank (outputStep_blank _ _ (p.afterSprites c)) Ppu.signals
    _ = (p.afterBackground c).signals := eq_of_blank (spriteStep_blank c _ _ (p.afterBackground c)) Ppu.signals
    _ = (p.clearStep p.scanline p.dot).signals := eq_of_blank (backgroundStep_blank c _ _ _) Ppu.signals

/-- VBlank and the two output signals after a dot (R273, R300). -/
theorem tick_signals (c : Cartridge) (p : Ppu) :
    (p.tick c).signals =
      if p.scanline = 241 ∧ p.dot = 1 then (true, true, p.nmiOut || p.ctrl.getLsbD 7)
      else if p.scanline = 261 ∧ p.dot = 1 then (false, p.frameComplete, p.nmiOut)
      else p.signals := by
  have counters : (p.tick c).signals = ((p.afterPixel c).vblankStep p.scanline p.dot).signals :=
    eq_of_blank (advanceCounters_blank _) Ppu.signals
  have before := afterPixel_signals c p
  have ctrl : (p.afterPixel c).ctrl = p.ctrl := (congrArg Prod.fst (afterPixel_same c p).1 :)
  rw [counters, Ppu.vblankStep]
  by_cases enter : p.scanline = 241 ∧ p.dot = 1
  · rw [clearStep_eq_self (by omega)] at before
    have nmi : (p.afterPixel c).nmiOut = p.nmiOut := congrArg (·.2.2) before
    rw [if_pos enter, if_pos enter, ← nmi, ← ctrl]
    rfl
  · rw [if_neg enter, if_neg enter, before, Ppu.clearStep]
    split <;> rfl

/-- The sprite-0 hit after a dot: a pixel's check raises it (R297), the pre-render line clears it (R273). -/
theorem tick_spr0Hit (c : Cartridge) (p : Ppu) :
    (p.tick c).spr0Hit =
      if p.scanline < 240 ∧ 1 ≤ p.dot ∧ p.dot ≤ 256 then
        p.spr0Hit || sprite0Hits (p.dot - 1) ((p.backgroundStep c p.scanline p.dot).bgPixel (p.dot - 1))
          ((p.backgroundStep c p.scanline p.dot).sprPixel (p.dot - 1))
      else if p.scanline = 261 ∧ p.dot = 1 then false
      else p.spr0Hit := by
  have pixel : (p.tick c).spr0Hit = (p.afterPixel c).spr0Hit := eq_of_blank (tick_blank c p) Ppu.spr0Hit
  have background (q : Ppu) : (q.backgroundStep c p.scanline p.dot).spr0Hit = q.spr0Hit :=
    eq_of_blank (backgroundStep_blank c _ _ q) Ppu.spr0Hit
  rw [pixel, Ppu.afterPixel, Ppu.outputStep]
  split
  case isTrue visible =>
    rw [afterSprites_visible visible.1 visible.2.2, Ppu.outputPixel, background]
  case isFalse =>
    have sprites : (p.afterSprites c).spr0Hit = (p.afterBackground c).spr0Hit :=
      eq_of_blank (spriteStep_blank c _ _ (p.afterBackground c)) Ppu.spr0Hit
    rw [sprites, Ppu.afterBackground, background, Ppu.clearStep]
    split <;> rfl

/-- Sprite line setup raises the overflow flag as evaluation does, on visible lines with rendering on (R288, R289). -/
theorem spriteLineSetup_sprOverflow (c : Cartridge) (s : Nat) (p : Ppu) :
    (p.spriteLineSetup c s).sprOverflow =
      if s < 240 ∧ p.rendering = true then (p.evaluateSprites s).sprOverflow else p.sprOverflow := by
  unfold Ppu.spriteLineSetup
  simp only [Bool.and_eq_true, decide_eq_true_eq]
  split
  · exact eq_of_blank (fetchSprites_blank c s _ 0 (p.evaluateSprites s)) Ppu.sprOverflow
  · split <;> rfl

/-- The overflow flag after a dot: evaluation raises it (R289), the pre-render line clears it (R273). -/
theorem tick_sprOverflow (c : Cartridge) (p : Ppu) :
    (p.tick c).sprOverflow =
      if p.dot = 257 ∧ p.scanline < 240 ∧ p.rendering = true then (p.evaluateSprites p.scanline).sprOverflow
      else if p.scanline = 261 ∧ p.dot = 1 then false
      else p.sprOverflow := by
  have pixel : (p.tick c).sprOverflow = (p.afterPixel c).sprOverflow := eq_of_blank (tick_blank c p) Ppu.sprOverflow
  have sprites : (p.afterPixel c).sprOverflow = (p.afterSprites c).sprOverflow :=
    eq_of_blank (outputStep_blank _ _ (p.afterSprites c)) Ppu.sprOverflow
  have background (q : Ppu) : (q.backgroundStep c p.scanline p.dot).sprOverflow = q.sprOverflow :=
    eq_of_blank (backgroundStep_blank c _ _ q) Ppu.sprOverflow
  rw [pixel, sprites, Ppu.afterSprites, Ppu.spriteStep, Ppu.afterBackground]
  by_cases setup : p.dot = 257
  · have evaluation : ((p.backgroundStep c p.scanline p.dot).evaluateSprites p.scanline).sprOverflow =
        (p.evaluateSprites p.scanline).sprOverflow :=
      eq_of_blank (backgroundStep_blank c _ _ p) (fun q => (Ppu.evaluateSprites p.scanline q).sprOverflow)
    have rendering : (p.backgroundStep c p.scanline p.dot).rendering = p.rendering :=
      eq_of_blank (backgroundStep_blank c _ _ p) Ppu.rendering
    have noClear : ¬ (p.scanline = 261 ∧ p.dot = 1) := by omega
    rw [if_pos setup, clearStep_eq_self noClear, spriteLineSetup_sprOverflow, evaluation, rendering, background,
      if_neg noClear]
    simp only [setup, true_and]
  · rw [if_neg setup, background, if_neg (fun h => setup h.1), Ppu.clearStep]
    split <;> rfl

/-- Evaluation clears no overflow flag (R289). -/
theorem evaluateSprites_keeps_sprOverflow {p : Ppu} (h : p.sprOverflow = true) (s : Nat) :
    (p.evaluateSprites s).sprOverflow = true := by rw [Ppu.evaluateSprites, h]; rfl

end Sys2Proof.Machine

namespace Sys2Proof.Proofs
open Sys2Proof.Machine

/-- Settles O48: each flag by its equation. -/
theorem statusFlagsChangeAtTheirDots : Obligations.StatusFlagsChangeAtTheirDots := by
  intro c p
  have signals := tick_signals c p
  have hit := tick_spr0Hit c p
  have overflow := tick_sprOverflow c p
  simp only [Ppu.signals] at signals
  dsimp only
  refine ⟨fun enter => ?enter, fun noEnter => ?noEnter, fun clear => ?clear, fun noEnter noClear => ?between,
    fun noClear => ⟨fun set => ?keepsHit, fun set => ?keepsOverflow⟩, fun set => ?newHit, fun set => ?newOverflow⟩
  case enter => simpa [enter] using signals
  case noEnter =>
    rw [if_neg noEnter] at signals
    split at signals <;> exact ⟨congrArg (·.2.1) signals, congrArg (·.2.2) signals⟩
  case clear =>
    rw [if_neg (by omega), if_pos clear] at signals hit overflow
    exact ⟨congrArg Prod.fst signals, hit, overflow⟩
  case between =>
    rw [if_neg noEnter, if_neg noClear] at signals
    exact congrArg Prod.fst signals
  case keepsHit => rw [hit, if_neg noClear, set]; simp
  case keepsOverflow => rw [overflow, if_neg noClear, set, evaluateSprites_keeps_sprOverflow set, ite_self]
  case newHit =>
    rw [hit] at set
    split_ifs at set with visible
    · exact .inr visible
    · exact .inl set
  case newOverflow =>
    rw [overflow] at set
    split_ifs at set with setup
    · exact .inr ⟨setup.2.1, setup.1⟩
    · exact .inl set

end Sys2Proof.Proofs
end

section
/-! PROOFS. Where `v` goes at a dot (47_ppu_pipeline.md R278, R282 to R285): the scroll arithmetic on the fields of the
address register, then the dot's four moves in order. -/

namespace Sys2Proof.Machine
open Sys2Proof.Spec

/-! The fields of the address register, put and read -/

theorem scroll_put_coarseX (v : BitVec 15) (u : BitVec 5) :
    scroll (putField v 0 u) = { scroll v with coarseX := u.toNat } := by
  simp only [scroll, toNat_putField v u (lo := 0) (by decide), Scroll.mk.injEq]
  omega

theorem scroll_put_coarseY (v : BitVec 15) (u : BitVec 5) :
    scroll (putField v 5 u) = { scroll v with coarseY := u.toNat } := by
  simp only [scroll, toNat_putField v u (lo := 5) (by decide), Scroll.mk.injEq]
  omega

theorem scroll_put_ntX (v : BitVec 15) (u : BitVec 1) :
    scroll (putField v 10 u) = { scroll v with ntX := u.toNat } := by
  simp only [scroll, toNat_putField v u (lo := 10) (by decide), Scroll.mk.injEq]
  omega

theorem scroll_put_ntY (v : BitVec 15) (u : BitVec 1) :
    scroll (putField v 11 u) = { scroll v with ntY := u.toNat } := by
  simp only [scroll, toNat_putField v u (lo := 11) (by decide), Scroll.mk.injEq]
  omega

theorem scroll_put_fineY (v : BitVec 15) (u : BitVec 3) :
    scroll (putField v 12 u) = { scroll v with fineY := u.toNat } := by
  simp only [scroll, toNat_putField v u (lo := 12) (by decide), Scroll.mk.injEq]
  omega

theorem coarseX_eq (v : BitVec 15) : (scroll v).coarseX = (field v 0 5).toNat := by
  simp only [toNat_field, scroll]; omega

theorem coarseY_eq (v : BitVec 15) : (scroll v).coarseY = (field v 5 5).toNat := by
  simp only [toNat_field, scroll]; omega

theorem ntX_eq (v : BitVec 15) : (scroll v).ntX = (field v 10 1).toNat := by
  simp only [toNat_field, scroll]; omega

theorem ntY_eq (v : BitVec 15) : (scroll v).ntY = (field v 11 1).toNat := by
  simp only [toNat_field, scroll]; omega

theorem fineY_eq (v : BitVec 15) : (scroll v).fineY = (field v 12 3).toNat := by
  simp only [toNat_field, scroll]; omega

/-- Flipping one bit is putting its complement. -/
theorem xor_twoPow_eq_putField {n : Nat} (v : BitVec n) (k : Nat) :
    v ^^^ BitVec.twoPow n k = putField v k (~~~field v k 1) := by
  refine BitVec.eq_of_getLsbD_eq fun i hi => ?_
  rw [getLsbD_putField, BitVec.getLsbD_xor, BitVec.getLsbD_twoPow]
  by_cases h : k = i
  · subst h; simp [hi, field]
  · rw [if_neg (by omega)]; simp [h]

theorem toNat_not_bit (b : BitVec 1) : (~~~b).toNat = 1 - b.toNat := BitVec.toNat_not

theorem scroll_flip_ntX (v : BitVec 15) : scroll (v ^^^ 0x0400) = { scroll v with ntX := 1 - (scroll v).ntX } := by
  rw [show (0x0400 : BitVec 15) = BitVec.twoPow 15 10 by decide, xor_twoPow_eq_putField, scroll_put_ntX, toNat_not_bit,
    ← ntX_eq]

theorem scroll_flip_ntY (v : BitVec 15) : scroll (v ^^^ 0x0800) = { scroll v with ntY := 1 - (scroll v).ntY } := by
  rw [show (0x0800 : BitVec 15) = BitVec.twoPow 15 11 by decide, xor_twoPow_eq_putField, scroll_put_ntY, toNat_not_bit,
    ← ntY_eq]

/-! The scroll arithmetic -/

theorem scroll_incCoarseX (v : BitVec 15) : scroll (incCoarseX v) = (scroll v).nextTile := by
  have last : field v 0 5 = 31 ↔ (scroll v).coarseX = 31 := by rw [coarseX_eq]; exact BitVec.toNat_inj.symm
  unfold incCoarseX Scroll.nextTile
  simp only [last]
  split
  · rw [scroll_flip_ntX, scroll_put_coarseX]; rfl
  · next h =>
    have next : (field v 0 5 + 1).toNat = (scroll v).coarseX + 1 := by
      rw [coarseX_eq] at h ⊢
      bv_omega
    rw [scroll_put_coarseX, next]

theorem scroll_incY (v : BitVec 15) : scroll (incY v) = (scroll v).nextRow := by
  have room : field v 12 3 < 7 ↔ (scroll v).fineY < 7 := by rw [fineY_eq]; exact Iff.rfl
  have row29 : field v 5 5 = 29 ↔ (scroll v).coarseY = 29 := by rw [coarseY_eq]; exact BitVec.toNat_inj.symm
  have row31 : field v 5 5 = 31 ↔ (scroll v).coarseY = 31 := by rw [coarseY_eq]; exact BitVec.toNat_inj.symm
  unfold incY Scroll.nextRow
  simp only [room, row29, row31]
  split_ifs with h h29 h31
  · have next : (field v 12 3 + 1).toNat = (scroll v).fineY + 1 := by rw [fineY_eq] at h ⊢; bv_omega
    rw [scroll_put_fineY, next]
  · rw [scroll_flip_ntY, scroll_put_coarseY, scroll_put_fineY]; rfl
  · rw [scroll_put_coarseY, scroll_put_fineY]; rfl
  · have next : (field v 5 5 + 1).toNat = (scroll v).coarseY + 1 := by rw [coarseY_eq] at h31 ⊢; bv_omega
    rw [scroll_put_coarseY, scroll_put_fineY, next]; rfl

theorem scroll_copyHoriz (t v : BitVec 15) :
    scroll (copyHoriz t v) = { scroll v with coarseX := (scroll t).coarseX, ntX := (scroll t).ntX } := by
  rw [copyHoriz, scroll_put_ntX, scroll_put_coarseX, ← coarseX_eq, ← ntX_eq]

theorem scroll_copyVert (t v : BitVec 15) :
    scroll (copyVert t v) =
      { scroll v with coarseY := (scroll t).coarseY, ntY := (scroll t).ntY, fineY := (scroll t).fineY } := by
  rw [copyVert, scroll_put_fineY, scroll_put_ntY, scroll_put_coarseY, ← coarseY_eq, ← ntY_eq, ← fineY_eq]

/-! The dot's moves -/

theorem fetchDot_iff (d : Nat) : fetchDot d = true ↔ fetches d := by simp [fetchDot]

theorem fetchSlot_v (c : Cartridge) (d : Nat) (p : Ppu) :
    (p.fetchSlot c d).v = if (d - 1) % 8 = 7 then incCoarseX p.v else p.v := by
  unfold Ppu.fetchSlot
  split
  case h_5 h => rw [if_pos h]; rfl
  case h_6 _ _ _ _ h => rw [if_neg h]
  all_goals next h => rw [if_neg (by omega)]; rfl

theorem scroll_fetchStep (c : Cartridge) (d : Nat) (p : Ppu) :
    scroll (p.fetchStep c d).v = if fetches d ∧ d % 8 = 0 then (scroll p.v).nextTile else scroll p.v := by
  unfold Ppu.fetchStep
  simp only [fetchDot_iff]
  by_cases h : fetches d
  · have slot : (d - 1) % 8 = 7 ↔ d % 8 = 0 := by omega
    simp only [h, if_true, true_and, fetchSlot_v, slot, apply_ite scroll, scroll_incCoarseX]
  · simp only [h, if_false, false_and]

theorem scroll_incYStep (d : Nat) (p : Ppu) :
    scroll (p.incYStep d).v = if d = 256 then (scroll p.v).nextRow else scroll p.v := by
  unfold Ppu.incYStep
  split
  · exact scroll_incY p.v
  · rfl

theorem scroll_copyHorizStep (d : Nat) (p : Ppu) :
    scroll (p.copyHorizStep d).v =
      if d = 257 then { scroll p.v with coarseX := (scroll p.t).coarseX, ntX := (scroll p.t).ntX } else scroll p.v := by
  unfold Ppu.copyHorizStep
  split
  · exact scroll_copyHoriz p.t p.v
  · rfl

theorem scroll_copyVertStep (s d : Nat) (p : Ppu) :
    scroll (p.copyVertStep s d).v =
      if s = 261 ∧ 280 ≤ d ∧ d ≤ 304 then
        { scroll p.v with coarseY := (scroll p.t).coarseY, ntY := (scroll p.t).ntY, fineY := (scroll p.t).fineY }
      else scroll p.v := by
  unfold Ppu.copyVertStep
  split
  · exact scroll_copyVert p.t p.v
  · rfl

theorem shiftStep_v (d : Nat) (p : Ppu) : (p.shiftStep d).v = p.v := by unfold Ppu.shiftStep; split <;> rfl

theorem reloadStep_v (d : Nat) (p : Ppu) : (p.reloadStep d).v = p.v := by unfold Ppu.reloadStep; split <;> rfl

theorem Ppu.SameOutside.t {q p : Ppu} (h : q.SameOutside p) : q.t = p.t := congrArg (fun o => o.2.2.2.2.1) h.1

/-- The four moves of a dot in the rule's order (R278). -/
theorem scroll_backgroundDot (c : Cartridge) (s d : Nat) (p : Ppu) :
    scroll (p.backgroundDot c s d).v = Scroll.atDot s d (scroll p.t) (scroll p.v) := by
  simp only [Ppu.backgroundDot, scroll_copyVertStep, scroll_copyHorizStep, scroll_incYStep, scroll_fetchStep,
    reloadStep_v, shiftStep_v, (copyHorizStep_same d _).t, (incYStep_same d _).t, (fetchStep_same c d _).t,
    (reloadStep_same d _).t, (shiftStep_same d _).t, Scroll.atDot]

/-! The pipeline on and off -/

theorem pipelineOn_iff (p : Ppu) : (p.rendering && renderLine p.scanline) = true ↔ pipelineOn p := by
  simp [Ppu.rendering, Ppu.showBg, Ppu.showSpr, renderLine]

theorem Ppu.SameOutside.mask {q p : Ppu} (h : q.SameOutside p) : q.mask = p.mask := congrArg (fun o => o.2.1) h.1

theorem Ppu.SameOutside.rendering {q p : Ppu} (h : q.SameOutside p) : q.rendering = p.rendering := by
  simp only [Ppu.rendering, Ppu.showBg, Ppu.showSpr, h.mask]

/-- With the pipeline on, the dot's background part is `BackgroundDot`, on the PPU with its status cleared (R271). -/
theorem afterBackground_on {p : Ppu} (h : pipelineOn p) (c : Cartridge) :
    p.afterBackground c = (p.clearStep p.scanline p.dot).backgroundDot c p.scanline p.dot := by
  rw [Ppu.afterBackground, Ppu.backgroundStep, (clearStep_same _ _ p).rendering, if_pos ((pipelineOn_iff p).mpr h)]

/-- With the pipeline off, a dot leaves what the background pipeline writes (R278). -/
theorem tick_background_off {p : Ppu} (h : ¬ pipelineOn p) (c : Cartridge) : (p.tick c).background = p.background := by
  rw [tick_background, Ppu.afterBackground, Ppu.backgroundStep, (clearStep_same _ _ p).rendering,
    if_neg (mt (pipelineOn_iff p).mp h), clearStep_background]

end Sys2Proof.Machine

namespace Sys2Proof.Proofs
open Sys2Proof.Machine Sys2Proof.Spec

/-- Settles O49: the dot's moves of `v`, which only the background pipeline writes. -/
theorem scrollAddressMovesOnScheduledDots : Obligations.ScrollAddressMovesOnScheduledDots := by
  refine fun c p => ⟨fun on => ?on, fun off => congrArg Prod.fst (tick_background_off off c)⟩
  case on =>
    have hv : (p.tick c).v = (p.afterBackground c).v := congrArg Prod.fst (tick_background c p)
    have hv' : (p.clearStep p.scanline p.dot).v = p.v := congrArg Prod.fst (clearStep_background p.scanline p.dot p)
    rw [hv, afterBackground_on on, scroll_backgroundDot, (clearStep_same _ _ p).t, hv']

end Sys2Proof.Proofs
end

section
/-! PROOFS. Bit-field expressions in arithmetic: disjoint fields put together with `|||` are their sum. -/

namespace Sys2Proof.Machine

theorem toNat_bit1 (b : Bool) : (bit1 b).toNat = b.toNat := BitVec.toNat_ofBool b

theorem toNat_or_disjoint {n : Nat} {x y : BitVec n} (h : x &&& y = 0#n) : (x ||| y).toNat = x.toNat + y.toNat := by
  rw [← BitVec.add_eq_or_of_and_eq_zero x y h, BitVec.toNat_add_of_and_eq_zero h]

/-- A field below the lowest bit of what stands before it. -/
theorem toNat_or_below {n : Nat} {x y : BitVec n} (k : Nat) (hx : x.toNat % 2 ^ k = 0) (hy : y.toNat < 2 ^ k) :
    (x ||| y).toNat = x.toNat + y.toNat := by
  have hm : x.toNat = 2 ^ k * (x.toNat / 2 ^ k) := by have := Nat.div_add_mod x.toNat (2 ^ k); omega
  rw [BitVec.toNat_or, hm, ← Nat.two_pow_add_eq_or_of_lt hy]

/-- A field left in its place by a mask of `len` ones from bit `lo` on. -/
theorem toNat_and_mask {n : Nat} (x : BitVec n) {m : BitVec n} (lo len : Nat) (hm : m.toNat = 2 ^ lo * (2 ^ len - 1)) :
    (x &&& m).toNat = 2 ^ lo * (x.toNat / 2 ^ lo % 2 ^ len) := by
  refine Nat.eq_of_testBit_eq fun i => ?_
  rw [BitVec.toNat_and, hm, Nat.testBit_and, Nat.testBit_two_pow_mul, Nat.testBit_two_pow_mul,
    Nat.testBit_two_pow_sub_one, Nat.testBit_mod_two_pow, Nat.testBit_div_two_pow]
  by_cases h : lo ≤ i
  · simp [h, Nat.sub_add_cancel h, Bool.and_comm]
  · simp [h]

/-- A narrow value moved up to its place in a wider one. -/
theorem toNat_setWidth_shiftLeft {m n : Nat} (x : BitVec m) (k : Nat) (h : 2 ^ k * x.toNat < 2 ^ n) :
    (x.setWidth n <<< k).toNat = 2 ^ k * x.toNat := by
  have narrow : x.toNat < 2 ^ n := (Nat.le_mul_of_pos_left _ (Nat.two_pow_pos k)).trans_lt h
  rw [BitVec.toNat_shiftLeft, BitVec.toNat_setWidth, Nat.mod_eq_of_lt narrow, Nat.shiftLeft_eq, Nat.mul_comm,
    Nat.mod_eq_of_lt h]

end Sys2Proof.Machine
end

section
/-! PROOFS. The tile fetches and the shifters at a dot (47_ppu_pipeline.md R278 to R281, R286). -/

namespace Sys2Proof.Machine
open Sys2Proof.Spec

/-! The addresses fetched from -/

theorem ntAddr_toNat (v : BitVec 15) :
    (0x2000 ||| (v &&& 0x0FFF).setWidth 14 : PpuAddr).toNat = 0x2000 + v.toNat % 4096 := by
  have low := toNat_and_mask v (m := 0x0FFF) 0 12 rfl
  have narrow : ((v &&& 0x0FFF).setWidth 14).toNat = v.toNat % 4096 := by rw [BitVec.toNat_setWidth, low]; omega
  rw [toNat_or_below 12 rfl (by omega), narrow]
  rfl

/-- A field of `x` moved down, then left in its place by a mask. -/
theorem toNat_ushiftRight_and_mask {n : Nat} (x : BitVec n) (k lo len : Nat) {m : BitVec n}
    (hm : m.toNat = 2 ^ lo * (2 ^ len - 1)) :
    ((x >>> k) &&& m).toNat = 2 ^ lo * (x.toNat / 2 ^ (k + lo) % 2 ^ len) := by
  rw [toNat_and_mask _ lo len hm, BitVec.toNat_ushiftRight, Nat.shiftRight_eq_div_pow, Nat.div_div_eq_div_mul,
    Nat.pow_add]

theorem attrAddr_toNat (v : BitVec 15) :
    (attrAddr v).toNat =
      0x23C0 + 2048 * (scroll v).ntY + 1024 * (scroll v).ntX + 8 * ((scroll v).coarseY / 4)
        + (scroll v).coarseX / 4 := by
  have nt : (v &&& 0x0C00#15).toNat = 2048 * (scroll v).ntY + 1024 * (scroll v).ntX := by
    simp only [toNat_and_mask v (m := 0x0C00#15) 10 2 rfl, scroll]; omega
  have row : ((v >>> 4) &&& 0x38#15).toNat = 8 * ((scroll v).coarseY / 4) := by
    simp only [toNat_ushiftRight_and_mask v 4 (m := 0x38#15) 3 3 rfl, scroll]; omega
  have column : ((v >>> 2) &&& 0x07#15).toNat = (scroll v).coarseX / 4 := by
    simp only [toNat_ushiftRight_and_mask v 2 (m := 0x07#15) 0 3 rfl, scroll]; omega
  have bounds : (scroll v).ntY < 2 ∧ (scroll v).ntX < 2 ∧ (scroll v).coarseY < 32 ∧ (scroll v).coarseX < 32 := by
    simp only [scroll]; omega
  have apart : 0x23C0#15 &&& (v &&& 0x0C00#15) = 0#15 := by
    rw [BitVec.and_comm v, ← BitVec.and_assoc]; exact BitVec.zero_and
  have base : (0x23C0#15 ||| (v &&& 0x0C00#15)).toNat = 0x23C0 + (v &&& 0x0C00#15).toNat := toNat_or_disjoint apart
  have upper : (0x23C0#15 ||| (v &&& 0x0C00#15) ||| ((v >>> 4) &&& 0x38#15)).toNat = _ :=
    toNat_or_below 6 (by omega) (by omega)
  change ((0x23C0#15 ||| (v &&& 0x0C00#15) ||| ((v >>> 4) &&& 0x38#15) ||| ((v >>> 2) &&& 0x07#15)).setWidth 14).toNat
    = _
  rw [BitVec.toNat_setWidth, toNat_or_below 3 (by omega) (by omega), upper, base, nt, row, column]
  omega

theorem attrShift_eq (v : BitVec 15) :
    attrShift v = 4 * ((scroll v).coarseY / 2 % 2) + 2 * ((scroll v).coarseX / 2 % 2) := by
  have row : ((v >>> 4) &&& 0x04#15).toNat = 4 * ((scroll v).coarseY / 2 % 2) := by
    simp only [toNat_ushiftRight_and_mask v 4 (m := 0x04#15) 2 1 rfl, scroll]; omega
  have column : (v &&& 0x02#15).toNat = 2 * ((scroll v).coarseX / 2 % 2) := by
    simp only [toNat_and_mask v (m := 0x02#15) 1 1 rfl, scroll]; omega
  change (((v >>> 4) &&& 0x04#15) ||| (v &&& 0x02#15)).toNat = _
  rw [toNat_or_below 2 (by omega) (by omega), row, column]

/-- The low plane's address; the high plane's, 8 further, is in the same tile. -/
theorem bgPatAddr_toNat (p : Ppu) :
    p.bgPatAddr.toNat = 4096 * (p.ctrl.getLsbD 4).toNat + 16 * p.ntByte.toNat + (scroll p.v).fineY := by
  have table := toNat_setWidth_shiftLeft (bit1 p.bgTable) (n := 14) 12 (by omega)
  have tile := toNat_setWidth_shiftLeft p.ntByte (n := 14) 4 (by omega)
  have row : ((field p.v 12 3).setWidth 14).toNat = (scroll p.v).fineY := by
    rw [BitVec.toNat_setWidth_of_le (by decide), fineY_eq]
  have fine : (scroll p.v).fineY < 8 := by simp only [scroll]; omega
  have upper : ((bit1 p.bgTable).setWidth 14 <<< 12 ||| p.ntByte.setWidth 14 <<< 4).toNat = _ :=
    toNat_or_below 12 (by omega) (by omega)
  rw [Ppu.bgPatAddr, toNat_or_below 4 (by omega) (by omega), upper, table, tile, row, toNat_bit1]
  rfl

theorem bgPatAddr_high_toNat (p : Ppu) : (p.bgPatAddr + 8).toNat = p.bgPatAddr.toNat + 8 := by
  have low := bgPatAddr_toNat p
  have fine : (scroll p.v).fineY < 8 := by simp only [scroll]; omega
  have table := Bool.toNat_le (p.ctrl.getLsbD 4)
  bv_omega

/-! The tile fetches -/

/-- What the four fetches would read now. -/
def Ppu.fetched (c : Cartridge) (p : Ppu) : Latches :=
  ((p.fetchNT c).ntByte, (p.fetchAT c).atBits, (p.fetchPatLo c).patLo, (p.fetchPatHi c).patHi)

/-- The latches after dot `d`: each takes what was fetched at its slot of the 8-dot group (R278). -/
def latchesAtDot (d : Nat) (new old : Latches) : Latches :=
  (if fetches d ∧ d % 8 = 1 then new.1 else old.1,
    if fetches d ∧ d % 8 = 3 then new.2.1 else old.2.1,
    if fetches d ∧ d % 8 = 5 then new.2.2.1 else old.2.2.1,
    if fetches d ∧ d % 8 = 7 then new.2.2.2 else old.2.2.2)

theorem fetchStep_latches (c : Cartridge) (d : Nat) (p : Ppu) :
    (p.fetchStep c d).latches = latchesAtDot d (p.fetched c) p.latches := by
  unfold Ppu.fetchStep latchesAtDot
  by_cases h : fetches d
  · rw [if_pos ((fetchDot_iff d).mpr h), Ppu.fetchSlot]
    simp only [h, true_and]
    split
    case h_1 => simp [show d % 8 = 1 by omega]; rfl
    case h_2 => simp [show d % 8 = 3 by omega]; rfl
    case h_3 => simp [show d % 8 = 5 by omega]; rfl
    case h_4 => simp [show d % 8 = 7 by omega]; rfl
    case h_5 => simp [show d % 8 = 0 by omega]; rfl
    case h_6 h0 h2 h4 h6 _ =>
      rw [if_neg fun h => h0 (by omega), if_neg fun h => h2 (by omega), if_neg fun h => h4 (by omega),
        if_neg fun h => h6 (by omega)]
  · rw [if_neg (mt (fetchDot_iff d).mp h)]
    simp only [h, false_and, if_false]

theorem fetchNT_ntByte (c : Cartridge) (p : Ppu) : (p.fetchNT c).ntByte = ppuByte c p (0x2000 + p.v.toNat % 4096) := by
  rw [Ppu.fetchNT, ppuRead_eq, ntAddr_toNat]

theorem fetchAT_atBits (c : Cartridge) (p : Ppu) :
    (p.fetchAT c).atBits.toNat =
      (ppuByte c p (0x23C0 + 2048 * (scroll p.v).ntY + 1024 * (scroll p.v).ntX + 8 * ((scroll p.v).coarseY / 4)
        + (scroll p.v).coarseX / 4)).toNat
        / 2 ^ (4 * ((scroll p.v).coarseY / 2 % 2) + 2 * ((scroll p.v).coarseX / 2 % 2)) % 4 := by
  rw [Ppu.fetchAT, ppuRead_eq, attrAddr_toNat, toNat_field, attrShift_eq]; rfl

theorem fetchPatLo_patLo (c : Cartridge) (p : Ppu) :
    (p.fetchPatLo c).patLo =
      ppuByte c p (4096 * (p.ctrl.getLsbD 4).toNat + 16 * p.ntByte.toNat + (scroll p.v).fineY) := by
  rw [Ppu.fetchPatLo, ppuRead_eq, bgPatAddr_toNat]

theorem fetchPatHi_patHi (c : Cartridge) (p : Ppu) :
    (p.fetchPatHi c).patHi =
      ppuByte c p (4096 * (p.ctrl.getLsbD 4).toNat + 16 * p.ntByte.toNat + (scroll p.v).fineY + 8) := by
  rw [Ppu.fetchPatHi, ppuRead_eq, bgPatAddr_high_toNat, bgPatAddr_toNat]

/-! The shifters -/

/-- A shifter after the shift and the reload of dot `d` with the byte `r` (R278, R286). -/
def reloaded (d : Nat) (x : BitVec 16) (r : Byte) : BitVec 16 :=
  if reloadDot d then putField (if shiftDot d then x <<< 1 else x) 0 r else if shiftDot d then x <<< 1 else x

/-- The byte a palette bit fills its shifter with (R286). -/
def attrFill (b : Bool) : Byte := if b then 0xFF else 0x00

/-- The four shifters after the shift and the reload of dot `d`. -/
def Ppu.shiftersAtDot (d : Nat) (p : Ppu) : BitVec 16 × BitVec 16 × BitVec 16 × BitVec 16 :=
  (reloaded d p.bgShLo p.patLo, reloaded d p.bgShHi p.patHi, reloaded d p.atShLo (attrFill (p.atBits.getLsbD 0)),
    reloaded d p.atShHi (attrFill (p.atBits.getLsbD 1)))

theorem shiftReload_shifters (d : Nat) (p : Ppu) :
    ((p.shiftStep d).reloadStep d).shifters = p.shiftersAtDot d := by
  unfold Ppu.reloadStep Ppu.shiftStep Ppu.shiftersAtDot reloaded
  split_ifs <;> rfl

theorem toNat_reloaded (d : Nat) (x : BitVec 16) (r : Byte) : (reloaded d x r).toNat = shifterAtDot d x r.toNat := by
  have shift : shiftDot d = true ↔ shifts d := by simp [shiftDot]
  have reload : reloadDot d = true ↔ reloads d := by simp [reloadDot, and_assoc, or_assoc]
  have shifted : (if shifts d then x <<< 1 else x).toNat = if shifts d then 2 * x.toNat % 65536 else x.toNat := by
    split
    · rw [BitVec.toNat_shiftLeft, Nat.shiftLeft_eq, Nat.mul_comm]
    · rfl
  simp only [reloaded, shifterAtDot, shift, reload, ← shifted]
  split
  · rw [toNat_putField _ _ (by decide)]; omega
  · rfl

theorem toNat_attrFill_low (a : BitVec 2) : (attrFill (a.getLsbD 0)).toNat = 255 * (a.toNat % 2) := by
  revert a; decide

theorem toNat_attrFill_high (a : BitVec 2) : (attrFill (a.getLsbD 1)).toNat = 255 * (a.toNat / 2) := by
  revert a; decide

/-! The dot -/

/-- `p` without its shifters. -/
def Ppu.blankShifters (p : Ppu) : Ppu := { p with bgShLo := 0, bgShHi := 0, atShLo := 0, atShHi := 0 }

theorem shiftReload_blank (d : Nat) (p : Ppu) :
    ((p.shiftStep d).reloadStep d).blankShifters = p.blankShifters := by
  unfold Ppu.reloadStep Ppu.shiftStep; split_ifs <;> rfl

theorem fetchStep_shifters (c : Cartridge) (d : Nat) (p : Ppu) : (p.fetchStep c d).shifters = p.shifters := by
  unfold Ppu.fetchStep Ppu.fetchSlot
  split
  · split <;> rfl
  · rfl

theorem incYStep_blankV (d : Nat) (p : Ppu) : (p.incYStep d).setV 0 = p.setV 0 := by
  unfold Ppu.incYStep; split <;> rfl

theorem copyHorizStep_blankV (d : Nat) (p : Ppu) : (p.copyHorizStep d).setV 0 = p.setV 0 := by
  unfold Ppu.copyHorizStep; split <;> rfl

theorem copyVertStep_blankV (s d : Nat) (p : Ppu) : (p.copyVertStep s d).setV 0 = p.setV 0 := by
  unfold Ppu.copyVertStep; split <;> rfl

/-- After the fetch a dot moves nothing but `v` (R278). -/
theorem backgroundDot_blankV (c : Cartridge) (s d : Nat) (p : Ppu) :
    (p.backgroundDot c s d).setV 0 = (((p.shiftStep d).reloadStep d).fetchStep c d).setV 0 :=
  (copyVertStep_blankV s d _).trans ((copyHorizStep_blankV d _).trans (incYStep_blankV d _))

theorem backgroundDot_latches (c : Cartridge) (s d : Nat) (p : Ppu) :
    (p.backgroundDot c s d).latches = latchesAtDot d (p.fetched c) p.latches := by
  rw [eq_of_blank (backgroundDot_blankV c s d p) Ppu.latches, fetchStep_latches,
    eq_of_blank (shiftReload_blank d p) Ppu.latches, eq_of_blank (shiftReload_blank d p) (Ppu.fetched c)]

theorem backgroundDot_shifters (c : Cartridge) (s d : Nat) (p : Ppu) :
    (p.backgroundDot c s d).shifters = p.shiftersAtDot d := by
  rw [eq_of_blank (backgroundDot_blankV c s d p) Ppu.shifters, fetchStep_shifters, shiftReload_shifters]

theorem tick_latches_on {p : Ppu} (h : pipelineOn p) (c : Cartridge) :
    (p.tick c).latches = latchesAtDot p.dot (p.fetched c) p.latches := by
  have own : (p.tick c).latches = (p.afterBackground c).latches := congrArg (·.2.1) (tick_background c p)
  rw [own, afterBackground_on h, backgroundDot_latches, eq_of_blank (clearStep_blank _ _ p) Ppu.latches,
    eq_of_blank (clearStep_blank _ _ p) (Ppu.fetched c)]

theorem tick_shifters_on {p : Ppu} (h : pipelineOn p) (c : Cartridge) :
    (p.tick c).shifters = p.shiftersAtDot p.dot := by
  have own : (p.tick c).shifters = (p.afterBackground c).shifters := congrArg (·.2.2) (tick_background c p)
  rw [own, afterBackground_on h, backgroundDot_shifters,
    eq_of_blank (clearStep_blank _ _ p) (Ppu.shiftersAtDot p.dot)]

end Sys2Proof.Machine

namespace Sys2Proof.Proofs
open Sys2Proof.Machine Sys2Proof.Spec

/-- Settles O50: what the fetches read, and what the shift and reload leave of each shifter. -/
theorem backgroundFetchesAndShiftsOnSchedule : Obligations.BackgroundFetchesAndShiftsOnSchedule := by
  intro c p
  refine ⟨fun off => ?off, fun on => ?on⟩
  case off =>
    have kept := tick_background_off off c
    simp only [Ppu.background, Ppu.latches, Ppu.shifters, Prod.mk.injEq] at kept
    obtain ⟨-, ⟨hnt, hat, hlo, hhi⟩, hbgLo, hbgHi, hatLo, hatHi⟩ := kept
    simp only [hnt, hat, hlo, hhi, hbgLo, hbgHi, hatLo, hatHi]
  case on =>
    have latches := tick_latches_on on c
    have shifters := tick_shifters_on on c
    simp only [Ppu.latches, latchesAtDot, Ppu.fetched, Prod.mk.injEq] at latches
    simp only [Ppu.shifters, Ppu.shiftersAtDot, Prod.mk.injEq] at shifters
    obtain ⟨hnt, hat, hlo, hhi⟩ := latches
    obtain ⟨hbgLo, hbgHi, hatLo, hatHi⟩ := shifters
    simp only [hnt, hat, hlo, hhi, hbgLo, hbgHi, hatLo, hatHi, fetchNT_ntByte, apply_ite BitVec.toNat, fetchAT_atBits,
      fetchPatLo_patLo, fetchPatHi_patHi, toNat_reloaded, toNat_attrFill_low, toNat_attrFill_high, and_self]

end Sys2Proof.Proofs
end

section
/-! PROOFS. Sprite evaluation (47_ppu_pipeline.md R289): what phase 1 has found once past the entries below `n`, and
where phase 2 looks. -/

namespace Sys2Proof.Machine
open Sys2Proof.Spec

variable {p : Ppu} {s : Nat}

theorem inRange_eq_covers (p : Ppu) (s : Nat) (y : Byte) : inRange p.sprHeight s y = covers p s y := by
  have same : (y.toNat ≤ s ∧ s - y.toNat < height p) ↔ (y.toNat ≤ s ∧ s < y.toNat + height p) := by omega
  rw [inRange, ← Bool.decide_and]
  exact decide_eq_decide.mpr same

/-! The entries found -/

/-- The entries below `n` in range of scanline `s`, in OAM order. -/
def foundBelow (p : Ppu) (s n : Nat) : List Nat := (List.range n).filter fun i => covers p s (p.oam.read (4 * i))

theorem inRangeEntries_eq (p : Ppu) (s : Nat) : inRangeEntries p s = foundBelow p s 64 := rfl

theorem foundBelow_succ_in {n : Nat} (h : covers p s (p.oam.read (4 * n)) = true) :
    foundBelow p s (n + 1) = foundBelow p s n ++ [n] := by
  simp [foundBelow, List.range_succ, h]

theorem foundBelow_succ_out {n : Nat} (h : ¬ covers p s (p.oam.read (4 * n)) = true) :
    foundBelow p s (n + 1) = foundBelow p s n := by
  simp [foundBelow, List.range_succ, h]

theorem foundBelow_length_le (n : Nat) : (foundBelow p s n).length ≤ n :=
  (List.length_filter_le _ _).trans (List.length_range).le

theorem foundBelow_isPrefix {n m : Nat} (h : n ≤ m) : foundBelow p s n <+: foundBelow p s m := by
  obtain ⟨k, rfl⟩ := Nat.exists_eq_add_of_le h
  rw [foundBelow, foundBelow, List.range_add, List.filter_append]
  exact ⟨_, rfl⟩

theorem foundBelow_getD {n m k : Nat} (h : n ≤ m) (hk : k < (foundBelow p s n).length) :
    (foundBelow p s m).getD k 0 = (foundBelow p s n).getD k 0 := by
  obtain ⟨rest, hrest⟩ := foundBelow_isPrefix (p := p) (s := s) h
  rw [← hrest, List.getD_append _ _ _ _ hk]

/-! Phase 1 -/

theorem read_copyEntry {oam sec : Memory 8} {n cnt : Nat} (h : sec.wf 32 = true) (hc : cnt < 8) {k b : Nat}
    (hb : b < 4) :
    (copyEntry oam n cnt sec).read (4 * k + b) = if k = cnt then oam.read (4 * n + b) else sec.read (4 * k + b) := by
  have h0 := Memory.wf_write (v := oam.read (4 * n)) h (show 4 * cnt < 32 by omega)
  have h1 := Memory.wf_write (v := oam.read (4 * n + 1)) h0 (show 4 * cnt + 1 < 32 by omega)
  have h2 := Memory.wf_write (v := oam.read (4 * n + 2)) h1 (show 4 * cnt + 2 < 32 by omega)
  rw [copyEntry, Memory.read_write h2, Memory.read_write h1, Memory.read_write h0, Memory.read_write h]
  by_cases hk : k = cnt
  · subst hk
    match b, hb with
    | 0, _ | 1, _ | 2, _ | 3, _ => simp
  · rw [if_neg (by omega), if_neg (by omega), if_neg (by omega), if_neg (by omega), if_neg hk]

/-- Phase 1 has passed the entries below `e.n` and copied those in range. -/
structure Scanned (p : Ppu) (s : Nat) (e : SprEval) : Prop where
  bound : e.n ≤ 64
  count : e.cnt = (foundBelow p s e.n).length
  atMost : e.cnt ≤ 8
  sec : e.sec.wf 32 = true
  copied : ∀ k b, k < e.cnt → b < 4 → e.sec.read (4 * k + b) = p.oam.read (4 * (foundBelow p s e.n).getD k 0 + b)
  zero : e.zero = (decide (0 < e.n) && covers p s (p.oam.read 0))
  /-- It stops right after the eighth. -/
  last : e.cnt = 8 → e.n = (foundBelow p s e.n).getD 7 0 + 1

namespace Scanned

variable {e : SprEval}

theorem start (h : p.sec.wf 32 = true) : Scanned p s { n := 0, cnt := 0, zero := false, sec := p.sec } where
  bound := Nat.zero_le 64
  count := rfl
  atMost := Nat.zero_le 8
  sec := h
  copied _ _ hk := absurd hk (Nat.not_lt_zero _)
  zero := rfl
  last h := absurd h (Nat.zero_ne_add_one 7)

/-- An entry out of range is passed. -/
theorem pass (h : Scanned p s e) (hn : e.n < 64) (hc : e.cnt < 8) (out : ¬ covers p s (p.oam.read (4 * e.n)) = true) :
    Scanned p s { e with n := e.n + 1 } where
  bound := hn
  count := by rw [foundBelow_succ_out out]; exact h.count
  atMost := h.atMost
  sec := h.sec
  copied := by rw [foundBelow_succ_out out]; exact h.copied
  zero := by
    rw [h.zero]
    by_cases h0 : e.n = 0
    · rw [h0] at out; simp [h0, out]
    · simp [Nat.pos_of_ne_zero h0]
  last h8 := absurd h8 (Nat.ne_of_lt hc)

/-- An entry in range is copied. -/
theorem take (h : Scanned p s e) (hn : e.n < 64) (hc : e.cnt < 8) (into : covers p s (p.oam.read (4 * e.n)) = true) :
    Scanned p s
      { n := e.n + 1, cnt := e.cnt + 1, zero := e.zero || e.n == 0, sec := copyEntry p.oam e.n e.cnt e.sec } where
  bound := hn
  count := by rw [foundBelow_succ_in into, List.length_append, ← h.count]; rfl
  atMost := hc
  sec := copyEntry_wf h.sec hc
  copied k b hk hb := by
    rw [foundBelow_succ_in into, read_copyEntry h.sec hc hb]
    by_cases hlast : k = e.cnt
    · rw [if_pos hlast, hlast, h.count, List.getD_append_right _ _ _ _ (le_refl _), Nat.sub_self]; rfl
    · have earlier : k < e.cnt := by simp only at hk; omega
      rw [if_neg hlast, List.getD_append _ _ _ _ (h.count ▸ earlier), h.copied k b earlier hb]
  zero := by
    rw [h.zero]
    by_cases h0 : e.n = 0
    · rw [h0] at into; simp [h0, into]
    · simp [Nat.pos_of_ne_zero h0, h0]
  last h8 := by
    have full : (foundBelow p s e.n).length = 7 := by rw [← h.count]; simp only at h8; omega
    rw [foundBelow_succ_in into, List.getD_append_right _ _ _ _ full.le, full]
    rfl

end Scanned

theorem evalPhase1_scanned {fuel : Nat} {e : SprEval} (h : Scanned p s e) (hf : 64 ≤ e.n + fuel) :
    Scanned p s (evalPhase1 p.oam p.sprHeight s fuel e) ∧
      ((evalPhase1 p.oam p.sprHeight s fuel e).n = 64 ∨ (evalPhase1 p.oam p.sprHeight s fuel e).cnt = 8) := by
  induction fuel generalizing e with
  | zero => exact ⟨h, .inl (Nat.le_antisymm h.bound hf)⟩
  | succ fuel ih =>
    unfold evalPhase1
    split
    case isTrue more =>
      rw [inRange_eq_covers]
      split
      case isTrue into => exact ih (h.take more.1 more.2 into) (by simp only; omega)
      case isFalse out => exact ih (h.pass more.1 more.2 out) (by simp only; omega)
    case isFalse stop =>
      have bound := h.bound
      have atMost := h.atMost
      simp only [Config.secOamMax] at stop
      exact ⟨h, by omega⟩

/-! Phase 2 -/

/-- From entry `n` and byte offset `m` on, both advance together (R289's quirk). -/
theorem evalPhase2_iff {fuel n m : Nat} (hf : 64 ≤ n + fuel) (hm : m < 4) :
    evalPhase2 p.oam p.sprHeight s fuel n m = true ↔
      ∃ j, n + j < 64 ∧ covers p s (p.oam.read (4 * (n + j) + (m + j) % 4)) = true := by
  induction fuel generalizing n m with
  | zero =>
    simp only [evalPhase2, Bool.false_eq_true, false_iff]
    rintro ⟨j, hj, -⟩
    omega
  | succ fuel ih =>
    unfold evalPhase2
    split
    case isTrue more =>
      have later : (∃ j, n + j < 64 ∧ covers p s (p.oam.read (4 * (n + j) + (m + j) % 4)) = true) ↔
          covers p s (p.oam.read (4 * n + m)) = true ∨
          ∃ j, n + 1 + j < 64 ∧ covers p s (p.oam.read (4 * (n + 1 + j) + ((m + 1) % 4 + j) % 4)) = true := by
        rw [← Nat.or_exists_add_one]
        simp [Nat.mod_eq_of_lt hm, Nat.add_assoc, Nat.add_comm 1, more]
      rw [later, ← ih (by omega) (Nat.mod_lt _ (by decide)), inRange_eq_covers]
      by_cases into : covers p s (p.oam.read (4 * n + m)) = true <;> simp [into]
    case isFalse stop =>
      simp only [Bool.false_eq_true, false_iff]
      rintro ⟨j, hj, -⟩
      omega

/-! Both phases -/

/-- Evaluation, taken apart at where phase 1 stops. -/
theorem evaluateSprites_scanned (hsec : p.sec.wf 32 = true) :
    ∃ e, Scanned p s e ∧ (e.n = 64 ∨ e.cnt = 8) ∧
      p.evaluateSprites s =
        { p with
          sec := e.sec, secCount := e.cnt, spr0OnLine := e.zero
          sprOverflow := p.sprOverflow || evalPhase2 p.oam p.sprHeight s 64 e.n 0 } := by
  obtain ⟨scanned, stop⟩ := evalPhase1_scanned (s := s) (Scanned.start hsec) (fuel := 64) (Nat.le_refl 64)
  exact ⟨_, scanned, stop, rfl⟩

end Sys2Proof.Machine

namespace Sys2Proof.Proofs
open Sys2Proof.Machine Sys2Proof.Spec

/-- Settles O51: what phase 1 has scanned when it stops, either at the end of OAM or right after the eighth sprite, and
what phase 2 meets from there. -/
theorem spriteEvaluationTakesTheFirstEight : Obligations.SpriteEvaluationTakesTheFirstEight := by
  intro p s hsec
  obtain ⟨e, scanned, stop, hq⟩ := evaluateSprites_scanned (s := s) hsec
  have count := scanned.count
  have atMost := scanned.atMost
  have passed := foundBelow_length_le (p := p) (s := s) e.n
  have found : e.cnt = min 8 (inRangeEntries p s).length := by
    rw [inRangeEntries_eq]
    have := (foundBelow_isPrefix (p := p) (s := s) scanned.bound).length_le
    rcases stop with h64 | h8
    · rw [h64] at count; omega
    · omega
  have entry {k : Nat} (hk : k < e.cnt) : (inRangeEntries p s).getD k 0 = (foundBelow p s e.n).getD k 0 :=
    foundBelow_getD scanned.bound (count ▸ hk)
  simp only [hq]
  refine ⟨found, fun k b hk hb => ?copied, ?zero, ?overflow⟩
  case copied => rw [scanned.copied k b hk hb, entry hk]
  case zero =>
    have started : 0 < e.n := by omega
    simp [scanned.zero, started]
  case overflow =>
    rw [Bool.or_eq_true, evalPhase2_iff (by omega) (by decide)]
    refine or_congr_right ?_
    by_cases full : e.cnt = 8
    · have next : e.n = (inRangeEntries p s).getD 7 0 + 1 := by rw [entry (by omega)]; exact scanned.last full
      have eight : 8 ≤ (inRangeEntries p s).length := by omega
      simp only [next, eight, true_and, Nat.zero_add]
    · have stopped : e.n = 64 := stop.resolve_right full
      constructor
      · rintro ⟨j, hj, -⟩; omega
      · rintro ⟨eight, -⟩; omega

end Sys2Proof.Proofs
end

section
/-! PROOFS. The sprites' pattern rows (47_ppu_pipeline.md R288, R290): the address of a row, and what the fetch loop
leaves in the line buffers. -/

namespace Sys2Proof.Machine
open Sys2Proof.Spec

/-! The row's address -/

/-- The low plane's address (R290): tall sprites take their table from the tile's low bit, their half from row bit 3. -/
theorem sprPatAddr_toNat (tall table : Bool) (tile : Byte) {row : Nat} (h : row < if tall then 16 else 8) :
    (sprPatAddr tall table tile row).toNat =
      if tall then 4096 * (tile.toNat % 2) + 16 * (tile.toNat / 2 * 2) + 16 * (row / 8 % 2) + row % 8
      else 4096 * table.toNat + 16 * tile.toNat + row := by
  have hr : (BitVec.ofNat 14 row).toNat = row := by
    rw [BitVec.toNat_ofNat]; split at h <;> omega
  unfold sprPatAddr
  cases tall with
  | true =>
    have bit : (tile &&& 0x01).toNat = tile.toNat % 2 := by rw [toNat_and_mask tile 0 1 rfl]; omega
    have even : (tile &&& 0xFE).toNat = tile.toNat / 2 * 2 := by rw [toNat_and_mask tile 1 7 rfl]; omega
    have bank := toNat_setWidth_shiftLeft (tile &&& 0x01) (n := 14) 12 (by omega)
    have pair := toNat_setWidth_shiftLeft (tile &&& 0xFE) (n := 14) 4 (by omega)
    have half : ((BitVec.ofNat 14 row &&& 8) <<< 1).toNat = 16 * (row / 8 % 2) := by
      rw [BitVec.toNat_shiftLeft, toNat_and_mask _ 3 1 rfl, hr, Nat.shiftLeft_eq]; omega
    have line : (BitVec.ofNat 14 row &&& 7).toNat = row % 8 := by
      rw [toNat_and_mask _ 0 3 rfl, hr]; omega
    have base := toNat_or_below (x := (tile &&& 0x01).setWidth 14 <<< 12) (y := (tile &&& 0xFE).setWidth 14 <<< 4) 12
      (by omega) (by omega)
    have upper := toNat_or_below (x := (tile &&& 0x01).setWidth 14 <<< 12 ||| (tile &&& 0xFE).setWidth 14 <<< 4)
      (y := (BitVec.ofNat 14 row &&& 8) <<< 1) 5 (by omega) (by omega)
    rw [if_pos rfl, if_pos rfl, toNat_or_below 3 (by omega) (by omega), upper, base, bank, pair, half, line,
      bit, even]
    rfl
  | false =>
    have bank := toNat_setWidth_shiftLeft (bit1 table) (n := 14) 12 (by omega)
    have number := toNat_setWidth_shiftLeft tile (n := 14) 4 (by omega)
    have low : row < 8 := h
    have upper : ((bit1 table).setWidth 14 <<< 12 ||| tile.setWidth 14 <<< 4).toNat = _ :=
      toNat_or_below 12 (by omega) (by omega)
    simp only [Bool.false_eq_true, if_false]
    rw [toNat_or_below 4 (by omega) (by omega), upper, bank, number, hr, toNat_bit1]
    rfl

/-- The high plane's address is 8 further. -/
theorem sprPatAddr_high_toNat (tall table : Bool) (tile : Byte) {row : Nat} (h : row < if tall then 16 else 8) :
    (sprPatAddr tall table tile row + 8).toNat = (sprPatAddr tall table tile row).toNat + 8 := by
  have low := sprPatAddr_toNat tall table tile h
  have bank := Bool.toNat_le table
  have room : (sprPatAddr tall table tile row).toNat + 8 < 16384 := by
    rw [low]
    cases tall with
    | true => rw [if_pos rfl]; omega
    | false =>
      have line : row < 8 := h
      rw [if_neg Bool.false_ne_true]
      omega
  bv_omega

/-- A byte mirrored if asked. -/
theorem getLsbD_reverse8_if (flip : Bool) (b : Byte) {k : Nat} (hk : k < 8) :
    (if flip then reverse8 b else b).getLsbD k = b.getLsbD (if flip then 7 - k else k) := by
  cases flip with
  | false => rfl
  | true =>
    simp only [if_true, reverse8, BitVec.getLsbD_reverse, BitVec.getMsbD, hk, decide_true, Bool.true_and]

/-! The fetch loop -/

/-- Entry `i` of the line buffers: both pattern bytes, palette and priority bits, X. -/
def Ppu.lineSprite (i : Nat) (p : Ppu) : Byte × Byte × Byte × Byte :=
  (p.sprLo.read i, p.sprHi.read i, p.sprAttr.read i, p.sprX.read i)

/-- The address of the pattern row that sprite `i` shows on scanline `s`. -/
def Ppu.rowAddr (s i : Nat) (p : Ppu) : PpuAddr :=
  sprPatAddr p.sprSize p.sprTable (p.sec.read (4 * i + 1))
    (sprRow p.sprHeight s (p.sec.read (4 * i)) (p.sec.read (4 * i + 2)))

/-- What is fetched for sprite `i` of the secondary OAM. -/
def Ppu.fetchedSprite (c : Cartridge) (s i : Nat) (p : Ppu) : Byte × Byte × Byte × Byte :=
  let flip := (p.sec.read (4 * i + 2)).getLsbD 6
  let lo := ppuRead c p (p.rowAddr s i)
  let hi := ppuRead c p (p.rowAddr s i + 8)
  (if flip then reverse8 lo else lo, if flip then reverse8 hi else hi, p.sec.read (4 * i + 2), p.sec.read (4 * i + 3))

/-- The line buffers are canonical. -/
structure Ppu.BuffersOk (p : Ppu) : Prop where
  sprLo : p.sprLo.wf 8 = true
  sprHi : p.sprHi.wf 8 = true
  sprAttr : p.sprAttr.wf 8 = true
  sprX : p.sprX.wf 8 = true

theorem Ppu.BuffersOk.fetchSprite {p : Ppu} (h : p.BuffersOk) (c : Cartridge) (s : Nat) {i : Nat} (hi : i < 8) :
    (p.fetchSprite c s i).BuffersOk where
  sprLo := Memory.wf_write h.sprLo hi
  sprHi := Memory.wf_write h.sprHi hi
  sprAttr := Memory.wf_write h.sprAttr hi
  sprX := Memory.wf_write h.sprX hi

theorem fetchSprite_lineSprite {p : Ppu} (h : p.BuffersOk) (c : Cartridge) (s i j : Nat) :
    (p.fetchSprite c s i).lineSprite j = if i = j then p.fetchedSprite c s i else p.lineSprite j := by
  unfold Ppu.lineSprite Ppu.fetchSprite
  simp only [Memory.read_write h.sprLo, Memory.read_write h.sprHi, Memory.read_write h.sprAttr,
    Memory.read_write h.sprX]
  split <;> rfl

theorem fetchSprites_lineSprite {p : Ppu} {k i : Nat} (h : p.BuffersOk) (hk : i + k ≤ 8) (c : Cartridge) (s j : Nat) :
    (Ppu.fetchSprites c s k i p).lineSprite j =
      if i ≤ j ∧ j < i + k then p.fetchedSprite c s j else p.lineSprite j := by
  induction k generalizing i p with
  | zero => rw [if_neg (by omega)]; rfl
  | succ k ih =>
    have later : (p.fetchSprite c s i).fetchedSprite c s j = p.fetchedSprite c s j := rfl
    rw [Ppu.fetchSprites, ih (h.fetchSprite c s (by omega)) (by omega), later, fetchSprite_lineSprite h]
    by_cases first : i = j
    · rw [if_neg (by omega), if_pos first, if_pos (by omega), first]
    · by_cases next : i + 1 ≤ j ∧ j < i + 1 + k
      · rw [if_pos next, if_pos (by omega)]
      · rw [if_neg next, if_neg first, if_neg (by omega)]

/-! Sprite line setup -/

theorem Scanned.inRange {p : Ppu} {s i : Nat} {e : SprEval} (h : Scanned p s e) (hi : i < e.cnt) :
    covers p s (e.sec.read (4 * i)) = true := by
  rw [h.count] at hi
  have entry := h.copied i 0 (h.count ▸ hi) (by decide)
  have mem : (foundBelow p s e.n).getD i 0 ∈ foundBelow p s e.n := by
    rw [List.getD_eq_getElem _ _ hi]; exact List.getElem_mem hi
  simp only [Nat.add_zero] at entry
  rw [entry]
  exact (List.mem_filter.mp mem).2

/-- The row a sprite shows lies within its height, flipped or not. -/
theorem sprRow_lt {p : Ppu} {s : Nat} {y : Byte} (h : covers p s y = true) (attr : Byte) :
    sprRow p.sprHeight s y attr < p.sprHeight := by
  have within : y.toNat ≤ s ∧ s < y.toNat + p.sprHeight := of_decide_eq_true h
  unfold sprRow
  dsimp only
  split <;> omega

/-- With rendering on, a visible line's setup leaves the count and the sprite-0 mark of evaluation, and for each sprite
found what is fetched for it (R288, R290). -/
theorem spriteLineSetup_on {s : Nat} {p : Ppu} (hs : s < 240) (hr : p.rendering = true) (hb : p.BuffersOk)
    (c : Cartridge) (hc : (p.evaluateSprites s).secCount ≤ 8) :
    (p.spriteLineSetup c s).secCount = (p.evaluateSprites s).secCount ∧
    (p.spriteLineSetup c s).spr0OnLine = (p.evaluateSprites s).spr0OnLine ∧
    ∀ i, i < (p.evaluateSprites s).secCount →
      (p.spriteLineSetup c s).lineSprite i = (p.evaluateSprites s).fetchedSprite c s i := by
  have loop : p.spriteLineSetup c s =
      Ppu.fetchSprites c s (p.evaluateSprites s).secCount 0 (p.evaluateSprites s) := by
    rw [Ppu.spriteLineSetup, if_pos (by simp [hs, hr])]
  have fetched := fetchSprites_blank c s (p.evaluateSprites s).secCount 0 (p.evaluateSprites s)
  have ok : (p.evaluateSprites s).BuffersOk := ⟨hb.sprLo, hb.sprHi, hb.sprAttr, hb.sprX⟩
  rw [loop]
  refine ⟨eq_of_blank fetched Ppu.secCount, eq_of_blank fetched Ppu.spr0OnLine, fun i hi => ?_⟩
  rw [fetchSprites_lineSprite ok (by omega), if_pos (by omega)]

/-- Without rendering, and on the pre-render line, the buffers are emptied (R288). -/
theorem spriteLineSetup_off {s : Nat} {p : Ppu} (h : s < 240 ∧ p.rendering = false ∨ s = 261) (c : Cartridge) :
    p.spriteLineSetup c s = { p with secCount := 0, spr0OnLine := false } := by
  rw [Ppu.spriteLineSetup]
  rcases h with ⟨hs, hr⟩ | rfl
  · rw [if_neg (by simp [hr]), if_pos (by simp [hs])]
  · rw [if_neg (by simp [Config.fbHeight]), if_pos (by simp)]

theorem spriteLineSetup_idle {s : Nat} (hs : 240 ≤ s) (hs' : s ≠ 261) (c : Cartridge) (p : Ppu) :
    p.spriteLineSetup c s = p := by
  rw [Ppu.spriteLineSetup, if_neg (by simp [hs]), if_neg (by simp [hs, hs'])]

theorem rendering_iff (p : Ppu) : p.rendering = true ↔ p.mask.getLsbD 3 = true ∨ p.mask.getLsbD 4 = true := by
  rw [Ppu.rendering, Bool.or_eq_true]; rfl

end Sys2Proof.Machine

namespace Sys2Proof.Proofs
open Sys2Proof.Machine Sys2Proof.Spec

/-- Settles O52: the setup's three cases; each sprite found covers the line, so that its row lies in its tiles. -/
theorem spriteRowsAreFetchedForTheNextLine : Obligations.SpriteRowsAreFetchedForTheNextLine := by
  intro c p s hsec hlo hhi hattr hx
  dsimp only
  refine ⟨fun hs on => ?rows, fun off => ?off, fun h240 h261 => spriteLineSetup_idle h240 h261 c p⟩
  case off =>
    rw [spriteLineSetup_off (by rwa [← Bool.not_eq_true, rendering_iff])]
    exact ⟨rfl, rfl⟩
  case rows =>
    obtain ⟨found, scanned, -, he⟩ := evaluateSprites_scanned (s := s) hsec
    have hcount : (p.evaluateSprites s).secCount = found.cnt := by rw [he]
    have hsecond : (p.evaluateSprites s).sec = found.sec := by rw [he]
    obtain ⟨count, mark, rows⟩ := spriteLineSetup_on hs ((rendering_iff p).mpr on) ⟨hlo, hhi, hattr, hx⟩ c
      (hcount ▸ scanned.atMost)
    refine ⟨count, mark, fun i hi => ?_⟩
    have row := sprRow_lt (scanned.inRange (hcount ▸ hi)) (found.sec.read (4 * i + 2))
    have low := sprPatAddr_toNat p.sprSize p.sprTable (found.sec.read (4 * i + 1)) row
    have high := sprPatAddr_high_toNat p.sprSize p.sprTable (found.sec.read (4 * i + 1)) row
    have sprite := rows i hi
    simp only [Ppu.lineSprite, Ppu.fetchedSprite, hsecond, Prod.mk.injEq] at sprite
    obtain ⟨plane0, plane1, attr, x⟩ := sprite
    have addr : (p.evaluateSprites s).rowAddr s i = sprPatAddr p.sprSize p.sprTable (found.sec.read (4 * i + 1))
        (sprRow p.sprHeight s (found.sec.read (4 * i)) (found.sec.read (4 * i + 2))) := by
      rw [Ppu.rowAddr, hsecond]; rfl
    have bus (a : Nat) : ppuByte c (p.evaluateSprites s) a = ppuByte c p a := rfl
    rw [plane0, plane1, attr, x, addr, ppuRead_eq, ppuRead_eq, bus, bus, high, low, hsecond]
    exact ⟨fun k hk => getLsbD_reverse8_if _ _ hk, fun k hk => getLsbD_reverse8_if _ _ hk, rfl, rfl⟩

end Sys2Proof.Proofs
end

section
/-! PROOFS. The pixel of a visible dot (47_ppu_pipeline.md R287, R292, R296 to R299): what the background and the
sprites contribute to a column, the palette cell chosen, and the frame-buffer cell written. -/

namespace Sys2Proof.Machine
open Sys2Proof.Spec

variable {p : Ppu} {x : Nat}

theorem toNat_append_add {m n : Nat} (u : BitVec m) (v : BitVec n) : (u ++ v).toNat = 2 ^ n * u.toNat + v.toNat := by
  rw [BitVec.toNat_append, Nat.shiftLeft_eq, Nat.mul_comm, Nat.two_pow_add_eq_or_of_lt v.isLt]

/-- Two bits, one from each plane. -/
theorem toNat_planes (hi lo : Bool) : (bit1 hi ++ bit1 lo).toNat = 2 * hi.toNat + lo.toNat := by
  rw [toNat_append_add, toNat_bit1, toNat_bit1]; rfl

theorem eq_zero_iff_toNat {n : Nat} (u : BitVec n) : u = 0 ↔ u.toNat = 0 := BitVec.toNat_inj.symm

/-! The background's contribution -/

theorem bgPixel_px (p : Ppu) (x : Nat) : (p.bgPixel x).px.toNat = bgPx p x := by
  have shown : (p.showBg && (decide (8 ≤ x) || p.bgLeft)) = true ↔
      p.mask.getLsbD 3 = true ∧ (8 ≤ x ∨ p.mask.getLsbD 1 = true) := by
    simp [Ppu.showBg, Ppu.bgLeft]
  rw [Ppu.bgPixel, bgPx]
  simp only [shown]
  split
  · exact toNat_planes _ _
  · rfl

theorem bgPixel_pal (h : bgPx p x ≠ 0) : (p.bgPixel x).pal.toNat = bgPal p := by
  have shown : (p.showBg && (decide (8 ≤ x) || p.bgLeft)) = true := by
    by_contra hidden
    rw [← bgPixel_px, Ppu.bgPixel, if_neg hidden] at h
    exact h rfl
  rw [Ppu.bgPixel, if_pos shown]
  exact toNat_planes _ _

/-! The sprites' contribution -/

/-- What sprite `i` contributes to column `x` where it wins (R292). -/
def Ppu.shownSprite (x : Nat) (p : Ppu) (i : Nat) : SprPixel :=
  { px := p.sprBits i (x - (p.sprX.read i).toNat)
    pal := field (p.sprAttr.read i) 0 2
    behind := (p.sprAttr.read i).getLsbD 5
    isZero := i == 0 && p.spr0OnLine }

theorem sprOpaque_iff (p : Ppu) (x i : Nat) : p.sprOpaque x i = true ↔ sprPx p x i ≠ 0 := by
  have bits : p.sprBits i (x - (p.sprX.read i).toNat) ≠ 0 ↔
      (p.sprBits i (x - (p.sprX.read i).toNat)).toNat ≠ 0 := not_congr (eq_zero_iff_toNat _)
  have columns : (p.sprX.read i).toNat ≤ x ∧ x - (p.sprX.read i).toNat ≤ 7 ↔
      (p.sprX.read i).toNat ≤ x ∧ x ≤ (p.sprX.read i).toNat + 7 := by omega
  rw [Ppu.sprOpaque, Bool.and_eq_true, bne_iff_ne, bits, Ppu.sprBits, toNat_planes, ← Bool.decide_and,
    decide_eq_true_eq, columns, sprPx]
  split
  case isTrue h => simp only [h, true_and]
  case isFalse h => simp only [h, false_and, ne_eq, not_true]

theorem shownSprite_px {i : Nat} (h : sprPx p x i ≠ 0) : (p.shownSprite x i).px.toNat = sprPx p x i := by
  have covered : (p.sprX.read i).toNat ≤ x ∧ x ≤ (p.sprX.read i).toNat + 7 := by
    by_contra outside
    exact h (if_neg outside)
  rw [sprPx, if_pos covered]
  exact toNat_planes _ _

/-- The scan finds the first opaque sprite from index `i` on. -/
theorem sprScan_eq (p : Ppu) (x k i : Nat) :
    p.sprScan x k i =
      ((List.range' i k).find? fun j => decide (sprPx p x j ≠ 0)).elim .none (p.shownSprite x) := by
  induction k generalizing i with
  | zero => rfl
  | succ k ih =>
    rw [Ppu.sprScan, List.range'_succ, List.find?_cons, ih]
    by_cases h : sprPx p x i ≠ 0
    · rw [if_pos ((sprOpaque_iff p x i).mpr h), decide_eq_true h]; rfl
    · rw [if_neg (mt (sprOpaque_iff p x i).mp h), decide_eq_false h]

theorem sprPixel_eq (p : Ppu) (x : Nat) : p.sprPixel x = (winner p x).elim .none (p.shownSprite x) := by
  have shown : (p.showSpr && (decide (8 ≤ x) || p.sprLeft)) = true ↔
      p.mask.getLsbD 4 = true ∧ (8 ≤ x ∨ p.mask.getLsbD 2 = true) := by
    simp [Ppu.showSpr, Ppu.sprLeft]
  rw [Ppu.sprPixel, winner, sprScan_eq, ← List.range_eq_range']
  simp only [shown]
  split <;> rfl

theorem sprPixel_of_none (h : winner p x = none) : p.sprPixel x = .none := by rw [sprPixel_eq, h]; rfl

theorem sprPixel_of_some {i : Nat} (h : winner p x = some i) : p.sprPixel x = p.shownSprite x i := by
  rw [sprPixel_eq, h]; rfl

theorem winner_opaque {i : Nat} (h : winner p x = some i) : sprPx p x i ≠ 0 := by
  unfold winner at h
  split at h
  · simpa using List.find?_some h
  · cases h

/-! The compositor -/

/-- The palette cell of an opaque pixel: its own half, its palette, its value (R78, R296). -/
theorem palIndex_palAddr (sprite : Bool) (pal px : BitVec 2) (h : px ≠ 0) :
    palIndex (palAddr sprite pal px) = (if sprite then 16 else 0) + 4 * pal.toNat + px.toNat := by
  revert sprite pal px; decide

theorem shownSprite_px_ne_zero {i : Nat} (h : winner p x = some i) : (p.shownSprite x i).px ≠ 0 := by
  rw [Ne, eq_zero_iff_toNat, shownSprite_px (winner_opaque h)]
  exact winner_opaque h

theorem palIndex_shownSprite {i : Nat} (h : winner p x = some i) :
    palIndex (palAddr true (p.shownSprite x i).pal (p.shownSprite x i).px) =
      16 + 4 * ((p.sprAttr.read i).toNat % 4) + sprPx p x i := by
  rw [palIndex_palAddr _ _ _ (shownSprite_px_ne_zero h), shownSprite_px (winner_opaque h), Ppu.shownSprite, toNat_field,
    if_pos rfl, Nat.pow_zero, Nat.div_one]
  rfl

/-- The compositor's choice, by which of the two pixels are opaque (R296). -/
theorem palIndex_composite (p : Ppu) (x : Nat) :
    palIndex (composite (p.bgPixel x) (p.sprPixel x)) = chosenCell p x := by
  have backdrop : (p.bgPixel x).px = 0 ↔ bgPx p x = 0 := by rw [eq_zero_iff_toNat, bgPixel_px]
  have background (h : ¬ bgPx p x = 0) :
      palIndex (palAddr false (p.bgPixel x).pal (p.bgPixel x).px) = 4 * bgPal p + bgPx p x := by
    rw [palIndex_palAddr _ _ _ (mt backdrop.mp h), bgPixel_pal h, bgPixel_px]; simp
  rw [chosenCell]
  cases hw : winner p x with
  | none =>
    rw [sprPixel_of_none hw, composite]
    by_cases h : bgPx p x = 0
    · rw [if_pos ⟨backdrop.mpr h, rfl⟩]
      exact (if_pos h).symm
    · rw [if_neg (fun both => h (backdrop.mp both.1)), if_neg (mt backdrop.mp h),
        if_pos (show SprPixel.none.px = 0 from rfl), background h]
      exact (if_neg h).symm
  | some i =>
    have notClear := shownSprite_px_ne_zero hw
    have sprite := palIndex_shownSprite hw
    rw [sprPixel_of_some hw, composite, if_neg (fun both => notClear both.2)]
    by_cases h : bgPx p x = 0
    · rw [if_pos (backdrop.mpr h), sprite]
      exact (if_pos (.inl h)).symm
    · rw [if_neg (mt backdrop.mp h), if_neg notClear]
      by_cases behind : (p.sprAttr.read i).getLsbD 5 = true
      · rw [if_pos (show (p.shownSprite x i).behind = true from behind), background h]
        exact (if_neg (not_or.mpr ⟨h, by rw [behind]; decide⟩)).symm
      · rw [if_neg (show ¬ (p.shownSprite x i).behind = true from behind), sprite]
        exact (if_pos (.inr (Bool.eq_false_iff.mpr behind))).symm

theorem sprite0Hits_iff (p : Ppu) (x : Nat) :
    sprite0Hits x (p.bgPixel x) (p.sprPixel x) = true ↔
      bgPx p x ≠ 0 ∧ winner p x = some 0 ∧ p.spr0OnLine = true ∧ x ≠ 255 := by
  have opaqueBg : (p.bgPixel x).px ≠ 0 ↔ bgPx p x ≠ 0 := by rw [Ne, eq_zero_iff_toNat, bgPixel_px]
  simp only [sprite0Hits, Bool.and_eq_true, bne_iff_ne, opaqueBg]
  cases hw : winner p x with
  | none => simp [sprPixel_of_none hw, SprPixel.none]
  | some i =>
    have notClear := shownSprite_px_ne_zero hw
    have isZero : (p.shownSprite x i).isZero = (i == 0 && p.spr0OnLine) := rfl
    simp only [sprPixel_of_some hw, notClear, not_false_eq_true, ne_eq, and_true, isZero, Bool.and_eq_true, beq_iff_eq,
      Option.some.injEq, and_assoc]

/-- The cell written (R298): emphasis bits over the palette entry, masked for grayscale. -/
theorem pixelCell_toNat (p : Ppu) (a : PpuAddr) : (p.pixelCell a).toNat = cellValue p (palIndex a) := by
  have emphasis : (field p.mask 5 3).toNat = p.mask.toNat / 32 := by rw [toNat_field]; omega
  have gray : (p.pal.read (palIndex a) &&& 0x30).toNat = (p.pal.read (palIndex a)).toNat / 16 * 16 := by
    rw [toNat_and_mask _ 4 2 rfl]; omega
  rw [Ppu.pixelCell, toNat_append_add, emphasis, cellValue, apply_ite BitVec.toNat, gray]
  rfl

/-! The dot -/

/-- The frame buffer after a dot (R271, R296). -/
theorem tick_fb (c : Cartridge) (p : Ppu) :
    (p.tick c).fb =
      if p.scanline < 240 ∧ 1 ≤ p.dot ∧ p.dot ≤ 256 then
        ((p.backgroundStep c p.scanline p.dot).outputPixel (p.dot - 1) p.scanline).fb
      else p.fb := by
  rw [eq_of_blank (tick_blank c p) Ppu.fb, Ppu.afterPixel, Ppu.outputStep]
  split
  case isTrue visible => rw [afterSprites_visible visible.1 visible.2.2]
  case isFalse =>
    rw [Ppu.afterSprites, eq_of_blank (spriteStep_blank c _ _ _) Ppu.fb, Ppu.afterBackground,
      eq_of_blank (backgroundStep_blank c _ _ _) Ppu.fb, eq_of_blank (clearStep_blank _ _ p) Ppu.fb]

/-- The cells of the frame buffer after a visible dot. -/
theorem tick_fb_read {p : Ppu} (hfb : p.fb.wf 61440 = true) (c : Cartridge)
    (visible : p.scanline < 240 ∧ 1 ≤ p.dot ∧ p.dot ≤ 256) (k : Nat) :
    let b := p.backgroundStep c p.scanline p.dot
    (p.tick c).fb.read k =
      if 256 * p.scanline + (p.dot - 1) = k then
        b.pixelCell (composite (b.bgPixel (p.dot - 1)) (b.sprPixel (p.dot - 1)))
      else p.fb.read k := by
  dsimp only
  rw [tick_fb, if_pos visible, Ppu.outputPixel, eq_of_blank (backgroundStep_blank c _ _ p) Ppu.fb]
  exact Memory.read_write hfb

/-- With both enables off there is no background pixel, no winning sprite, and the backdrop is chosen (R299). -/
theorem chosenCell_disabled (hbg : p.mask.getLsbD 3 = false) (hspr : p.mask.getLsbD 4 = false) :
    chosenCell p x = 0 := by
  have noBackground : bgPx p x = 0 := by
    simp only [bgPx, hbg, Bool.false_eq_true, false_and, if_false]
  have noSprite : winner p x = none := by
    simp only [winner, hspr, Bool.false_eq_true, false_and, if_false]
  rw [chosenCell, noSprite]
  exact if_pos noBackground

theorem rendering_disabled (hbg : p.mask.getLsbD 3 = false) (hspr : p.mask.getLsbD 4 = false) :
    p.rendering = false := by
  rw [Ppu.rendering, Ppu.showBg, Ppu.showSpr, hbg, hspr]; rfl

theorem backgroundStep_disabled (h : p.rendering = false) (c : Cartridge) (s d : Nat) : p.backgroundStep c s d = p := by
  rw [Ppu.backgroundStep, h]; rfl

/-- The sprites a line shows: how many, and whether the first is OAM entry 0 (R34). -/
def Ppu.spriteLine (p : Ppu) : Nat × Bool := (p.secCount, p.spr0OnLine)

/-- With rendering off, dot 257 of a render line empties the sprite line (R288, R299). -/
theorem tick_spriteLine_disabled (h : p.rendering = false) (hd : p.dot = 257) (hs : p.scanline < 240 ∨ p.scanline = 261)
    (c : Cartridge) : (p.tick c).spriteLine = (0, false) := by
  have setup : p.afterSprites c = p.spriteLineSetup c p.scanline := by
    rw [Ppu.afterSprites, Ppu.afterBackground, clearStep_eq_self (by omega), backgroundStep_disabled h, Ppu.spriteStep,
      if_pos hd]
  rw [eq_of_blank (tick_blank c p) Ppu.spriteLine, Ppu.afterPixel, eq_of_blank (outputStep_blank _ _ _) Ppu.spriteLine,
    setup, spriteLineSetup_off (hs.imp_left (⟨·, h⟩))]
  rfl

end Sys2Proof.Machine

namespace Sys2Proof.Proofs
open Sys2Proof.Machine Sys2Proof.Spec

/-- Settles O53: the one cell the dot writes, and its sprite-0 check. -/
theorem visibleDotsWriteTheComposedPixel : Obligations.VisibleDotsWriteTheComposedPixel := by
  intro c p hfb
  dsimp only
  refine ⟨fun visible => ⟨?cell, fun k hk => ?others, ?hit⟩, fun blank => by rw [tick_fb, if_neg blank]⟩
  case cell => rw [tick_fb_read hfb c visible, if_pos rfl, pixelCell_toNat, palIndex_composite]
  case others => rw [tick_fb_read hfb c visible, if_neg (Ne.symm hk)]
  case hit => rw [tick_spr0Hit, if_pos visible, Bool.or_eq_true, sprite0Hits_iff]

/-- Settles O54: the background's part of the dot is off, setup empties the buffers, and the backdrop's cell is
chosen. -/
theorem disabledRenderingShowsTheBackdrop : Obligations.DisabledRenderingShowsTheBackdrop := by
  intro c p hfb hbg hspr
  have off := rendering_disabled hbg hspr
  dsimp only
  refine ⟨?v, fun setup line => ?buffers, fun hs hd hd' => ?pixel⟩
  case v =>
    have noPipeline : ¬ pipelineOn p := by rw [← pipelineOn_iff, off]; exact Bool.false_ne_true
    exact congrArg Prod.fst (tick_background_off noPipeline c)
  case buffers =>
    have counts := tick_spriteLine_disabled off setup line c
    exact ⟨congrArg Prod.fst counts, congrArg Prod.snd counts⟩
  case pixel =>
    rw [tick_fb_read hfb c ⟨hs, hd, hd'⟩, if_pos rfl, pixelCell_toNat, palIndex_composite, backgroundStep_disabled off,
      chosenCell_disabled hbg hspr]

end Sys2Proof.Proofs
end

section
/-! PROOFS. The joypad's serial protocol (48_joypad.md R312, R314, R315): what a strobe leaves, and what a read gives
and leaves while the strobe is low. -/

namespace Sys2Proof.Machine
open Sys2Proof.Spec

variable {j : Joypad} (q : Params)

/-- The bit at place `i` of what a snapshot `m` shifts out: its eight buttons, then the fixed bit (R314). -/
def shiftedBit (m : Byte) (i : Nat) : Bool := if i < 8 then m.getLsbD i else q.joyExhausted

theorem shiftedBit_of_ge (m : Byte) {i : Nat} (h : 8 ≤ i) : shiftedBit q m i = q.joyExhausted := if_neg h.not_gt

theorem write_high_write_low {b1 b2 : Byte} (high : b1.getLsbD 0 = true) (low : b2.getLsbD 0 = false) (j : Joypad) :
    (j.write b1).write b2 = { j with strobe := false, snapshot := j.buttons, index := 0 } := by
  simp only [Joypad.write, high, low, if_true, Bool.false_eq_true, if_false]

theorem joypadRead_toNat (j : Joypad) : (j.read q).1.toNat = 2 * q.joyUpper.toNat + (j.serialBit q).toNat := by
  rw [Joypad.read, toNat_append_add, toNat_bit1]; rfl

theorem serialBit_low (low : j.strobe = false) : j.serialBit q = shiftedBit q j.snapshot j.index := by
  rw [Joypad.serialBit, low]; rfl

theorem joypadRead_low (low : j.strobe = false) :
    (j.read q).2 = if j.index < 8 then { j with index := j.index + 1 } else j := by
  rw [Joypad.read, low]; rfl

theorem joypadRead_strobe_low (low : j.strobe = false) : (j.read q).2.strobe = false := by
  rw [joypadRead_low q low]; split_ifs <;> exact low

theorem joypadRead_snapshot_low (low : j.strobe = false) : (j.read q).2.snapshot = j.snapshot := by
  rw [joypadRead_low q low]; split_ifs <;> rfl

/-- A read shifts by one place; where the index has stopped, both places lie past the eighth button. -/
theorem shiftedBit_joypadRead_index (low : j.strobe = false) (m : Byte) (k : Nat) :
    shiftedBit q m ((j.read q).2.index + k) = shiftedBit q m (j.index + (k + 1)) := by
  rw [joypadRead_low q low]
  split_ifs with h
  · exact congrArg (shiftedBit q m) (Nat.add_right_comm j.index 1 k)
  · rw [shiftedBit_of_ge q m (by omega), shiftedBit_of_ge q m (by omega)]

/-- With the strobe low, read `k` of a series gives the snapshot's bit `k` places past the index, for any host masks. -/
theorem joySeries_getD_toNat (low : j.strobe = false) {ms : List Byte} {k : Nat} (hk : k < ms.length) :
    ((joySeries q ms j).getD k 0).toNat =
      2 * q.joyUpper.toNat + (shiftedBit q j.snapshot (j.index + k)).toNat := by
  induction ms generalizing j k with
  | nil => exact absurd hk k.not_lt_zero
  | cons m ms ih =>
    have heldLow : Joypad.strobe { j with buttons := m } = false := low
    cases k with
    | zero => rw [joySeries, List.getD_cons_zero, joypadRead_toNat, serialBit_low q heldLow]; rfl
    | succ k =>
      rw [joySeries, List.getD_cons_succ, ih (joypadRead_strobe_low q heldLow) (Nat.lt_of_succ_lt_succ hk),
        joypadRead_snapshot_low q heldLow, shiftedBit_joypadRead_index q heldLow]

end Sys2Proof.Machine

namespace Sys2Proof.Proofs
open Sys2Proof.Machine Sys2Proof.Spec

/-- Settles O55: the strobe leaves the first write's buttons at place 0, and each read shifts out one place. -/
theorem joypadDeliversTheSnapshot : Obligations.JoypadDeliversTheSnapshot := by
  intro q j b1 b2 ms k high low hk
  rw [write_high_write_low high low, joySeries_getD_toNat q rfl hk, Nat.zero_add]
  rfl

end Sys2Proof.Proofs
end

section
/-! PROOFS. The step around the CPU's part (49_master_clock.md R326, R328, 60_exceptions.md R345, R346): when there is
one, an NMI entry in its place, and what follows it. -/

namespace Sys2Proof.Machine

theorem Ppu.nmiOut_emptied {q : Ppu} (h : q.nmiOut = false) : { q with nmiOut := false } = q := by rw [← h]

/-- What follows a CPU step, whole: the hand-over sees the PPU after its dots. -/
theorem endStep_eq (t : State) :
    endStep t = { t with
      ppu := { Ppu.ticks t.cart (3 * t.cyc) t.ppu with nmiOut := false }
      nmiPending := t.nmiPending || (Ppu.ticks t.cart (3 * t.cyc) t.ppu).nmiOut
      clk := { cpuCycles := t.clk.cpuCycles + t.cyc, ppuDots := t.clk.ppuDots + 3 * t.cyc } } := by
  have hppu : (runDots t).ppu = Ppu.ticks t.cart (3 * t.cyc) t.ppu := rfl
  rw [endStep, nmiHandOver, hppu]
  cases raised : (Ppu.ticks t.cart (3 * t.cyc) t.ppu).nmiOut with
  | true => rw [if_pos rfl, Bool.or_true]; rfl
  | false => rw [if_neg Bool.false_ne_true, Ppu.nmiOut_emptied raised, Bool.or_false]; rfl

/-- With an NMI pending and no fault latched, the step is the NMI entry and what follows it. -/
theorem step_nmi {s : State} (hfault : s.fault = none) (hnmi : s.nmiPending = true) :
    step s = .next (endStep (nmiEntry s)) := by
  simp [step, clockStep, hfault, cpuStep, hnmi]

/-- A fetch refuses only the listed bytes. -/
theorem mem_illegalOpcodes_of_fetch {s u : State} {op : Byte} (h : fetch s = (.illegal op, u)) :
    (busRead s.pc s).1 ∈ Spec.illegalOpcodes := by
  rw [← opcodeFormat_eq_none_iff]
  simp only [fetch] at h
  split at h
  · next hnone => exact hnone
  all_goals cases h

/-- A fetch decodes none of the listed bytes. -/
theorem not_mem_illegalOpcodes_of_fetch {s u : State} {i : Instr} (h : fetch s = (.instr i, u)) :
    (busRead s.pc s).1 ∉ Spec.illegalOpcodes := by
  intro hmem
  rw [fetch_illegal ((opcodeFormat_eq_none_iff _).mpr hmem)] at h
  cases h

/-- No step is refused: every instruction completes, and what else stops a step is a fault. -/
theorem step_ne_refused (s : State) (r : Refusal) : step s ≠ .refused r := by
  rw [step]
  rcases clockStep_cases s with ⟨f, -, hstep⟩ | ⟨-, -, hstep⟩ | ⟨i, u, t, -, -, -, -, hstep⟩ | ⟨op, u, -, -, -, hstep⟩
    <;> rw [hstep] <;> nofun

end Sys2Proof.Machine

namespace Sys2Proof.Proofs
open Sys2Proof.Machine

/-- Settles O8: the inversion of a step, and the end of the step whole. -/
theorem endOfStepRunsThreeDotsACycleThenHandsOver : Obligations.EndOfStepRunsThreeDotsACycleThenHandsOver :=
  ⟨fun _ _ => step_next, endStep_eq⟩

/-- Settles O9: the NMI entry is the handler entry with PC itself saved and the vector at 0xFFFA. -/
theorem pendingNmiIsEnteredBeforeTheFetch : Obligations.PendingNmiIsEnteredBeforeTheFetch := by
  intro s hfault hnmi hram
  have hlow : 0x8000 ≤ Config.vecNmi.toNat := by decide
  have hhigh : Config.vecNmi.toNat < 0xFFFF := by decide
  let s0 := (s.setNmiPending false).setCyc Config.nmiCycles
  obtain ⟨hhi, hlo, himage, hothers⟩ := enterHandler_ram hlow hhigh s.pc (pushedByNmi s.p) (s := s0) hram
  obtain ⟨hi, hflags, hpc, hcyc, hregs, hcart, hppu, hjoy, hclk, hpending, hf, hparams⟩ :=
    enterHandler_registers hlow hhigh s.pc (pushedByNmi s.p) s0
  exact ⟨nmiEntry s, step_nmi hfault hnmi, hhi, hlo, himage, hothers, hi, hflags, hpc, hcyc, hregs, hpending, hcart, hppu,
    hjoy, hclk, hf.trans hfault, hparams⟩

/-- Settles O11, by the four things a step can be. -/
theorem stepCompletesUnlessAFaultStopsIt : Obligations.StepCompletesUnlessAFaultStopsIt := by
  intro s
  refine ⟨?_, step_ne_refused s⟩
  rw [step]
  rcases clockStep_cases s with ⟨f, hfault, hstep⟩ | ⟨hfault, hnmi, hstep⟩ |
    ⟨i, u, t, hfault, -, hfetch, -, hstep⟩ | ⟨op, u, -, hnmi, hfetch, hstep⟩
  · simp [hstep, hfault]
  · simp [hstep, hfault, hnmi]
  · simp [hstep, hfault, not_mem_illegalOpcodes_of_fetch hfetch]
  · simp [hstep, hnmi, mem_illegalOpcodes_of_fetch hfetch]

end Sys2Proof.Proofs
end

section
/-! PROOFS. A frame ends (49_master_clock.md R329, R336): the raster stands `k` dots before line 241 dot 1, the CPU's part
of a driver step does not move it, and the step's dots either pass that dot or bring it at least six nearer. -/

namespace Sys2Proof.Machine

/-! Dots and `frame_complete` -/

theorem tick_frameComplete (c : Cartridge) (p : Ppu) :
    (p.tick c).frameComplete = if p.scanline = 241 ∧ p.dot = 1 then true else p.frameComplete := by
  rw [show (p.tick c).frameComplete = (p.tick c).signals.2.1 from rfl, tick_signals]
  split_ifs <;> rfl

theorem ticks_keep_frameComplete (c : Cartridge) (n : Nat) {p : Ppu} (h : p.frameComplete = true) :
    (Ppu.ticks c n p).frameComplete = true := by
  induction n generalizing p with
  | zero => exact h
  | succ n ih => exact ih (by rw [tick_frameComplete, h, ite_self])

/-- Line 241 dot 1 is among the next `n` dots, counted from where the raster stands. -/
def Ppu.VBlankWithin (n : Nat) (p : Ppu) : Prop := ∃ k, k < n ∧ (p.dotsPassed + k) % 89342 = 82182

theorem vblankWithin_frame (p : Ppu) : p.VBlankWithin 89342 :=
  ⟨(89342 - p.dotsPassed % 89342 + 82182) % 89342, by omega, by omega⟩

/-- In-range counters name line 241 dot 1 by the dots passed. -/
theorem dotsPassed_vblank_iff {p : Ppu} (h : p.rasterOk) :
    p.dotsPassed % 89342 = 82182 ↔ p.scanline = 241 ∧ p.dot = 1 := by
  obtain ⟨hline, hdot⟩ := h
  unfold Ppu.dotsPassed
  omega

/-- Dots that pass line 241 dot 1 complete the frame. -/
theorem ticks_frameComplete (c : Cartridge) {n : Nat} {p : Ppu} (h : p.rasterOk) (hv : p.VBlankWithin n) :
    (Ppu.ticks c n p).frameComplete = true := by
  induction n generalizing p with
  | zero => obtain ⟨k, hk, -⟩ := hv; exact absurd hk k.not_lt_zero
  | succ n ih =>
    obtain ⟨k, hk, hmod⟩ := hv
    cases k with
    | zero =>
      have atVBlank := (dotsPassed_vblank_iff h).mp hmod
      exact ticks_keep_frameComplete c n (by rw [tick_frameComplete, if_pos atVBlank])
    | succ k =>
      refine ih (rasterOk_tick h c) ⟨k, by omega, ?_⟩
      rw [tick_dotsPassed h, Nat.add_assoc, Nat.add_comm 1 k, hmod]

/-- Dots that stop short of line 241 dot 1 bring it nearer. -/
theorem Ppu.VBlankWithin.ticks (c : Cartridge) {n m : Nat} {p : Ppu} (h : p.rasterOk) (hv : p.VBlankWithin n)
    (hm : ¬ p.VBlankWithin m) : (Ppu.ticks c m p).VBlankWithin (n - m) := by
  obtain ⟨k, hk, hmod⟩ := hv
  have hmk : m ≤ k := by
    by_contra hlt
    exact hm ⟨k, by omega, hmod⟩
  refine ⟨k - m, by omega, ?_⟩
  rw [ticks_dotsPassed h, Nat.add_assoc, Nat.add_sub_cancel' hmk, hmod]

theorem Ppu.VBlankWithin.mono {n m : Nat} {p : Ppu} (hv : p.VBlankWithin n) (h : n ≤ m) : p.VBlankWithin m := by
  obtain ⟨k, hk, hmod⟩ := hv
  exact ⟨k, by omega, hmod⟩

/-- Only the raster position decides. -/
theorem Ppu.VBlankWithin.congr {n : Nat} {p q : Ppu} (hv : p.VBlankWithin n) (h : q.raster = p.raster) :
    q.VBlankWithin n := by
  have passed : q.dotsPassed = p.dotsPassed := congrArg (fun r => 89342 * r.2.2 + 341 * r.1 + r.2.1) h
  rwa [Ppu.VBlankWithin, passed]

/-! A driver step -/

theorem cpuStep_raster {s t : State} (h : cpuStep s = .next t) : t.ppu.raster = s.ppu.raster :=
  congrArg (fun q => q.raster) ((Ppu.InternalsOf.busInvariant s.ppu).cpuStep (.refl s.ppu) h).internals

theorem endStep_ppu (t : State) :
    (endStep t).ppu = { Ppu.ticks t.cart (3 * t.cyc) t.ppu with nmiOut := false } := by rw [endStep_eq]

/-- A driver step halts, now or before, or is a CPU step with what follows it. -/
theorem driverStep_cases (s : State) :
    (driverStep s).fault.isSome = true ∨ ∃ t, cpuStep s = .next t ∧ driverStep s = endStep t := by
  cases hfault : s.fault with
  | some f => exact .inl (by simp [driverStep, hfault])
  | none =>
    cases hcpu : cpuStep s with
    | next t => exact .inr ⟨t, rfl, by simp [driverStep, hfault, hcpu]⟩
    | fault f => exact .inl (by simp [driverStep, hfault, hcpu, haltedBy])
    | refused r => exact absurd (by simp [step, clockStep, hfault, hcpu]) (step_ne_refused s r)

/-- A driver step halts, completes the frame, or brings line 241 dot 1 at least six dots nearer. -/
theorem driverStep_progress {s : State} {n : Nat} (h : s.ppu.rasterOk) (hv : s.ppu.VBlankWithin n) :
    (driverStep s).ppu.frameComplete = true ∨ (driverStep s).fault.isSome = true ∨
      (driverStep s).ppu.rasterOk ∧ (driverStep s).ppu.VBlankWithin (n - 6) := by
  rcases driverStep_cases s with halted | ⟨t, hcpu, hstep⟩
  · exact .inr (.inl halted)
  · have ht : t.ppu.rasterOk := h.congr (cpuStep_raster hcpu)
    have htv := hv.congr (cpuStep_raster hcpu)
    obtain ⟨hcyc, -⟩ := cpuStep_cost hcpu
    rw [hstep, endStep_ppu]
    by_cases passes : t.ppu.VBlankWithin (3 * t.cyc)
    · exact .inl (ticks_frameComplete t.cart ht passes)
    · exact .inr (.inr ⟨rasterOk_ticks ht t.cart _, (htv.ticks t.cart ht passes).mono (by omega)⟩)

/-- The loop ends where its driver steps tick past line 241 dot 1 at six dots each. -/
theorem runUntilFrame_ends {n : Nat} {s : State} (h : s.ppu.rasterOk) (hv : s.ppu.VBlankWithin (6 * n)) :
    (runUntilFrame n s).ppu.frameComplete = true ∨ (runUntilFrame n s).fault.isSome = true := by
  induction n generalizing s with
  | zero => obtain ⟨k, hk, -⟩ := hv; exact absurd hk k.not_lt_zero
  | succ n ih =>
    rw [runUntilFrame]
    split_ifs with ends
    · simpa using ends
    · rcases driverStep_progress h hv with complete | halted | ⟨hraster, hnear⟩
      · simp [complete] at ends
      · simp [halted] at ends
      · exact ih hraster hnear

end Sys2Proof.Machine

namespace Sys2Proof.Proofs
open Sys2Proof.Machine

/-- Settles O58: 14891 steps of six dots are more than a frame's 89342, so one passes line 241 dot 1. -/
theorem runFrameEndsWithinItsBound : Obligations.RunFrameEndsWithinItsBound :=
  fun s h => runUntilFrame_ends h ((vblankWithin_frame s.ppu).mono (by decide))

end Sys2Proof.Proofs
end

section
/-! PROOFS. Cartridge load (70_reset_and_hazards.md R377, R378): the header's fields as numbers, the bytes of a slice, and
one equation for each way the checks end. -/

namespace Sys2Proof.Machine

variable {bs : List Byte}

/-! The header -/

/-- The four magic bytes, one by one. -/
def HasMagic (bs : List Byte) : Prop :=
  fileByte bs 0 = 0x4E ∧ fileByte bs 1 = 0x45 ∧ fileByte bs 2 = 0x53 ∧ fileByte bs 3 = 0x1A

theorem take_four_eq_iff_hasMagic (h : 16 ≤ bs.length) :
    bs.take 4 = [0x4E, 0x45, 0x53, 0x1A] ↔ HasMagic bs := by
  match bs with
  | b0 :: b1 :: b2 :: b3 :: rest => simp [HasMagic, fileByte]
  | [] | [_] | [_, _] | [_, _, _] => simp at h

theorem headerMapper_toNat (bs : List Byte) :
    (headerMapper bs).toNat = (fileByte bs 7).toNat / 16 * 16 + (fileByte bs 6).toNat / 16 := by
  have high : ∀ b : Byte, (b &&& 0xF0).toNat = 2 ^ 4 * (b.toNat / 16) := by decide
  have low : (fileByte bs 6 >>> 4).toNat = (fileByte bs 6).toNat / 16 := by
    rw [BitVec.toNat_ushiftRight, Nat.shiftRight_eq_div_pow]
  have parts : headerMapper bs = (fileByte bs 7 &&& (0xF0 : Byte)) ||| (fileByte bs 6 >>> 4) := rfl
  rw [parts, BitVec.toNat_or, high, low, ← Nat.two_pow_add_eq_or_of_lt (by omega), Nat.mul_comm]

theorem headerMapper_eq_zero_iff :
    headerMapper bs = 0 ↔ (fileByte bs 7).toNat / 16 * 16 + (fileByte bs 6).toNat / 16 = 0 := by
  rw [← headerMapper_toNat, ← BitVec.toNat_inj]; rfl

theorem headerPrgOffset_eq (bs : List Byte) :
    headerPrgOffset bs = 16 + 512 * ((fileByte bs 6).getLsbD 2).toNat := by
  rw [headerPrgOffset]
  cases (fileByte bs 6).getLsbD 2 <;> rfl

theorem headerPrgSize_eq_none {units : Byte} (h : ¬ (units = 1 ∨ units = 2)) : headerPrgSize units = none := by
  rw [not_or] at h
  rw [headerPrgSize, if_neg h.1, if_neg h.2]

theorem headerPrgSize_eq_some {units : Byte} (h : units = 1 ∨ units = 2) :
    ∃ size, headerPrgSize units = some size ∧ size.bytes = 16384 * units.toNat := by
  rcases h with rfl | rfl
  · exact ⟨.units1, rfl, rfl⟩
  · exact ⟨.units2, rfl, rfl⟩

/-- A size byte of at most one unit counts none or one. -/
theorem units_cases {units : Byte} (h : units.toNat ≤ 1) : units = 0 ∨ units = 1 := by
  simp only [← BitVec.toNat_inj]
  exact Nat.le_one_iff_eq_zero_or_eq_one.mp h

/-! A slice of the file -/

theorem slice_read {off len k : Nat} (h : k < len) : (slice bs off len).read k = fileByte bs (off + k) := by
  rw [slice, Memory.read_ofList, fileByte, List.getD_eq_getElem?_getD, List.getD_eq_getElem?_getD,
    List.getElem?_take_of_lt h, List.getElem?_drop]

theorem slice_wf {off len size : Nat} (h : len ≤ size) : (slice bs off len).wf size = true :=
  Memory.wf_ofList ((List.length_take_le _ _).trans h)

/-- Pattern memory of no unit reads 0 everywhere, of one unit as the file's bytes. -/
theorem slice_patternUnits {units : Byte} (h : units.toNat ≤ 1) (off : Nat) :
    (slice bs off (8192 * units.toNat)).wf 8192 = true ∧
    ∀ k, k < 8192 → (slice bs off (8192 * units.toNat)).read k = if units = 0 then 0 else fileByte bs (off + k) := by
  refine ⟨slice_wf (by omega), fun k hk => ?_⟩
  rcases units_cases h with rfl | rfl
  · rfl
  · exact slice_read hk

/-! The checks in the rule's order -/

theorem loadCartridge_short (h : bs.length < 16) : loadCartridge bs = .error .truncated := if_pos h

theorem loadCartridge_badMagic (h : 16 ≤ bs.length) (hmagic : ¬ HasMagic bs) :
    loadCartridge bs = .error .badMagic := by
  rw [loadCartridge, if_neg h.not_gt, if_pos ((take_four_eq_iff_hasMagic h).not.mpr hmagic)]

section
variable (h : 16 ≤ bs.length) (hmagic : HasMagic bs)
include h hmagic

theorem loadCartridge_unsupportedMapper (hmapper : headerMapper bs ≠ 0) :
    loadCartridge bs = .error .unsupportedMapper := by
  rw [loadCartridge, if_neg h.not_gt, if_neg (not_not.mpr ((take_four_eq_iff_hasMagic h).mpr hmagic)), if_pos hmapper]

theorem loadCartridge_unsupportedSize (hmapper : headerMapper bs = 0)
    (hsized : ¬ ((fileByte bs 4 = 1 ∨ fileByte bs 4 = 2) ∧ (fileByte bs 5).toNat ≤ 1)) :
    loadCartridge bs = .error .unsupportedSize := by
  rw [loadCartridge, if_neg h.not_gt, if_neg (not_not.mpr ((take_four_eq_iff_hasMagic h).mpr hmagic)),
    if_neg (not_not.mpr hmapper)]
  by_cases hprg : fileByte bs 4 = 1 ∨ fileByte bs 4 = 2
  · obtain ⟨size, hsize, -⟩ := headerPrgSize_eq_some hprg
    rw [hsize]
    exact if_pos (not_le.mp fun hchr => hsized ⟨hprg, hchr⟩)
  · rw [headerPrgSize_eq_none hprg]

theorem loadCartridge_eq_loadImage (hmapper : headerMapper bs = 0) {size : PrgSize}
    (hsize : headerPrgSize (fileByte bs 4) = some size) (hchr : (fileByte bs 5).toNat ≤ 1) :
    loadCartridge bs = loadImage bs size := by
  rw [loadCartridge, if_neg h.not_gt, if_neg (not_not.mpr ((take_four_eq_iff_hasMagic h).mpr hmagic)),
    if_neg (not_not.mpr hmapper), hsize]
  exact if_neg hchr.not_gt

end

end Sys2Proof.Machine

namespace Sys2Proof.Proofs
open Sys2Proof.Machine

/-- Settles O57: the checks one after the other; the image is two slices of the file. -/
theorem cartridgeLoadFollowsTheHeader : Obligations.CartridgeLoadFollowsTheHeader := by
  intro bs byte magic mapper sized off prgLen chrLen
  have hmapper : headerMapper bs = 0 ↔ mapper = 0 := headerMapper_eq_zero_iff
  have hoff : headerPrgOffset bs = off := headerPrgOffset_eq bs
  refine ⟨loadCartridge_short, loadCartridge_badMagic,
    fun h hmagic hm => loadCartridge_unsupportedMapper h hmagic (hmapper.not.mpr hm),
    fun h hmagic hm hsized => loadCartridge_unsupportedSize h hmagic (hmapper.mpr hm) hsized,
    fun h hmagic hm hsized hlen => ?short, fun h hmagic hm hsized hlen => ?image⟩
  all_goals
    obtain ⟨hprg, hchr⟩ := hsized
    obtain ⟨size, hsize, hbytes⟩ := headerPrgSize_eq_some hprg
    replace hbytes : size.bytes = prgLen := hbytes
    rw [loadCartridge_eq_loadImage h hmagic (hmapper.mpr hm) hsize hchr, loadImage, hoff, hbytes]
  case short => exact if_pos hlen
  case image =>
    obtain ⟨hwf, hread⟩ := slice_patternUnits (bs := bs) hchr (off + prgLen)
    exact ⟨_, if_neg hlen.not_gt, hbytes, hmapper.mpr hm, fun _ => slice_read, slice_wf le_rfl, rfl, hwf, hread, rfl⟩

end Sys2Proof.Proofs
end
